-- ==== Sys2Proof/Word.lean ====
section
/-! DEFINITION. The two word types of the frame-memory bus (00_scope.md 4.1). -/
namespace Sys2Proof

/-- One byte of frame memory, one companded code, one sequence number (00_scope.md 4.1, R3, R15). -/
abbrev Byte := BitVec 8

/-- A byte address of the 28-bit frame-memory bus (11, "system port"). -/
abbrev Addr := BitVec 28

end Sys2Proof
end

