-- ==== Sys2Proof/Config.lean ====
section
/-! DEFINITION. What the part's silicon fixes as plain numbers, and the one free value of the model. -/
namespace Sys2Proof

/-- The byte that the `n`-th read beyond the fitted SDRAM returns for address `a`: a FREE VALUE. R171's Caution says only
that what software reads back there "is then not what the part wrote" (notes/assumptions/9.md). -/
opaque Config.absentByte : Nat → Nat → Byte

namespace Config

/-- Call contexts 0..383 (00_scope.md, chapter 6). -/
abbrev contexts : Nat := 384
/-- Timeslot numbers the map has entries for (R78). -/
abbrev timeslots : Nat := 512
/-- Entries of a tap set and of a claim list (R78). -/
abbrev mapCapacity : Nat := 3
/-- Lanes of the conversion engine (R131). -/
abbrev lanes : Nat := 4
/-- Words the posted write queue may hold (R150). -/
abbrev pwqWords : Nat := 64
/-- Entries the fetch queue may hold (R112). -/
abbrev fetchEntries : Nat := 16
/-- Blocks of the frame pool (R123). -/
abbrev poolBlocks : Nat := 4096
/-- Bytes that the 28-bit byte addresses of both ports reach (11_bringing_the_part_into_service.md 11.1). -/
abbrev addressSpace : Nat := 268435456
/-- Sample frames of a frame period, codes of a half (00_scope.md 4.2, R65). -/
abbrev period : Nat := 160

end Config
end Sys2Proof
end

