-- ==== Sys2Proof/Syntax.lean ====
section
/-! DEFINITION. The commands the part takes: one constructor per row of spec/opcode_table.json, with the row's operands. -/
namespace Sys2Proof

/-- The four bytes of one word on the bus, the byte at the lowest address first. A byte whose byte enable is clear is
`none`: the bus gives it no meaning (11, "system port"; R66, R73). -/
structure Lanes where
  b0 : Option Byte
  b1 : Option Byte
  b2 : Option Byte
  b3 : Option Byte
  deriving DecidableEq, Repr

/-- A master write: the byte address of its first word and its words (00_scope.md 4.1, R57). -/
structure WriteBurst where
  addr  : Addr
  words : List Lanes
  deriving DecidableEq, Repr

/-- A master read: the byte address of its first word and the number of its words (00_scope.md 4.1, R57). -/
structure ReadBurst where
  addr  : Addr
  count : Nat
  deriving DecidableEq, Repr

/-- The commands. A row that is a master access carries the access; the access's effect is decided by its address and the
part state, never by the row's name (R57, R58, R74; notes/assumptions/5.md). -/
inductive Instr where
  /-- POWER_ON_CLEAR (R172), with the strap levels CB_BASE and MEM_SIZE it samples (R171). -/
  | powerOnClear (cbBase : BitVec 13) (memSize : BitVec 3)
  /-- PIN_RESET (R172): RESET_N low and high again, with the strap levels sampled as it returns high (R171). -/
  | pinReset (cbBase : BitVec 13) (memSize : BitVec 3)
  /-- INGRESS_PCM_WRITE (R66). -/
  | ingressPcmWrite (b : WriteBurst)
  /-- EGRESS_PCM_READ (R72). -/
  | egressPcmRead (b : ReadBurst)
  /-- MOBILE_INGRESS_WRITE (R76). -/
  | mobileIngressWrite (b : WriteBurst)
  /-- CONTROL_AREA_WRITE (R73). -/
  | controlAreaWrite (b : WriteBurst)
  /-- EGRESS_CONSUMER_WRITE (R163). -/
  | egressConsumerWrite (b : WriteBurst)
  /-- NOTICE_CONSUMER_WRITE (R168). -/
  | noticeConsumerWrite (b : WriteBurst)
  /-- MASTER_WRITE (R155). -/
  | masterWrite (b : WriteBurst)
  /-- MASTER_READ (R154). -/
  | masterRead (b : ReadBurst)
  /-- OPEN (R98): the control-area write that carries the context command. -/
  | ctxOpen (b : WriteBurst)
  /-- MODIFY (R99). -/
  | ctxModify (b : WriteBurst)
  /-- HANDOVER (R102). -/
  | ctxHandover (b : WriteBurst)
  /-- CLOSE (R103). -/
  | ctxClose (b : WriteBurst)
  /-- REPORT (R106). -/
  | ctxReport (b : WriteBurst)
  /-- BAD_COMMAND (R92). -/
  | ctxBadCommand (b : WriteBurst)
  /-- START (R175): the control-area write that carries the control command. -/
  | ctlStart (b : WriteBurst)
  /-- STOP (R176). -/
  | ctlStop (b : WriteBurst)
  /-- CLEAR (R177). -/
  | ctlClear (b : WriteBurst)
  /-- BAD_CONTROL_COMMAND (R173). -/
  | ctlBadCommand (b : WriteBurst)
  /-- DRAIN (R153). -/
  | drain
  /-- FETCH_HEADER_READ (R115). -/
  | fetchHeaderRead
  /-- FETCH_BODY_READ (R116). -/
  | fetchBodyRead
  /-- ENCODE_JOB_START (R135). -/
  | encodeJobStart
  /-- DECODE_JOB_START (R139). -/
  | decodeJobStart
  /-- ENCODE_END_OF_WORK (R137) of the running encode job of context `k`. -/
  | encodeEndOfWork (k : Nat)
  /-- DECODE_JOB_COMPLETION (R141) of the running decode job of context `k`. -/
  | decodeJobCompletion (k : Nat)
  /-- GROUP_ADMISSION (R152). -/
  | groupAdmission
  /-- GROUP_DISCARD (R162). -/
  | groupDiscard
  /-- QUIET_TIMEOUT (R169). -/
  | quietTimeout
  deriving DecidableEq, Repr

end Sys2Proof
end

