-- ==== Sys2Proof/WellFormed.lean ====
section
/-! DEFINITION. Which commands are well formed: a burst of the bus is 1 to 8 words at a multiple of 4 that do not cross a
32-byte boundary (00_scope.md 4.1, R57); a context number is 0..383 (00_scope.md 4.4). -/
namespace Sys2Proof

/-- The bus's shape of an access of `count` words at `addr` (00_scope.md 4.1). -/
def burstShape (addr : Addr) (count : Nat) : Bool :=
  addr.toNat % 4 == 0 && (1 ≤ count && (count ≤ 8 && addr.toNat % 32 + 4 * count ≤ 32))

def WriteBurst.wf (b : WriteBurst) : Bool := burstShape b.addr b.words.length

def ReadBurst.wf (b : ReadBurst) : Bool := burstShape b.addr b.count

def Instr.wf : Instr → Bool
  | .powerOnClear _ _ | .pinReset _ _ => true
  | .ingressPcmWrite b | .mobileIngressWrite b | .controlAreaWrite b | .egressConsumerWrite b
  | .noticeConsumerWrite b | .masterWrite b | .ctxOpen b | .ctxModify b | .ctxHandover b | .ctxClose b
  | .ctxReport b | .ctxBadCommand b | .ctlStart b | .ctlStop b | .ctlClear b | .ctlBadCommand b => b.wf
  | .egressPcmRead b | .masterRead b => b.wf
  | .drain | .fetchHeaderRead | .fetchBodyRead | .encodeJobStart | .decodeJobStart => true
  | .encodeEndOfWork k | .decodeJobCompletion k => decide (k < Config.contexts)
  | .groupAdmission | .groupDiscard | .quietTimeout => true

end Sys2Proof
end

