-- ==== Sys2Proof/Decode.lean ====
section
/-! DEFINITION. The command a word spells by the table's bits. Every row of spec/opcode_table.json has an empty list of
fields and no fixed bits: the part has no instruction words (00_scope.md, "The part has no address of its own and no
register window"), so no word spells a command (notes/assumptions/20.md). -/
namespace Sys2Proof

/-- No row of the table gives bits. -/
def decodeTableWord (_nbits _w : Nat) : Option Instr := none

end Sys2Proof
end

