-- ==== Sys2Proof/Machine/State.lean ====
section
/-! DEFINITION. The state of the part, block by block as 00_scope.md 2 lists its blocks, the reasons a command can stop,
and the state right after power-on clear. -/
namespace Sys2Proof.Machine

/-- Reasons the model stops with a fault. -/
inductive Fault where
  /-- Raised by the grant of a master access whose operand is no burst of the bus: not at a multiple of 4, not 1 to 8
  words, or across a 32-byte boundary (00_scope.md 4.1, R57). The bus carries no such access. Safe. -/
  | notABurst
  deriving DecidableEq, Repr

/-- Reasons the model refuses a command. -/
inductive Refusal where
  /-- Raised by an arm of exec whose command has no meaning in the model. No arm raises it. Safe. -/
  | notModelled (mnemonic : String)
  deriving DecidableEq, Repr

/-- A list of (address, byte), rising addresses, no byte equal to what an unlisted address reads as. -/
abbrev Memory := List Host.Cell

/-! ### The part as a whole (chapter 11) -/

/-- R173. -/
inductive PartState where
  | idle
  | running
  deriving DecidableEq, Repr

/-- The window definitions START copies (R58, R175). The control area's place comes from the strap (R171). -/
structure Windows where
  ingressBase : Nat
  egressBase  : Nat
  /-- S, the timeslots of a ring frame. -/
  slots       : Nat
  /-- F, the ring frames of a PCM ring. -/
  frames      : Nat
  mobInBase   : Nat
  ni          : Nat
  mobOutBase  : Nat
  ne          : Nat
  noticeBase  : Nat
  nn          : Nat
  deriving DecidableEq, Repr

inductive ReadyMode where
  | level
  | burst
  deriving DecidableEq, Repr

/-- R171 to R175. -/
structure Part where
  state      : PartState
  cbBase     : BitVec 13
  memSize    : BitVec 3
  windows    : Option Windows
  trigger    : Nat
  quietLimit : Nat
  readyMode  : ReadyMode
  threshold  : Nat
  deriving DecidableEq, Repr

/-! ### Sample clocks (R60) -/

structure Clocks where
  inPos    : Nat
  inFrame  : Nat
  frameNo  : BitVec 16
  outPos   : Nat
  outFrame : Nat
  deriving DecidableEq, Repr

/-! ### Timeslot map (R78) -/

structure Tsm where
  taps   : List (List Nat)
  claims : List (List Nat)
  deriving DecidableEq, Repr

/-! ### Context records (chapter 6) -/

/-- Law 0 and law 1 (R3). -/
inductive Law where
  | seg13
  | seg15
  deriving DecidableEq, Repr

inductive Priority where
  | normal
  | high
  deriving DecidableEq, Repr

/-- The captured configuration (R89). -/
structure Captured where
  law       : Law
  uplink    : Bool
  downlink  : Bool
  inSlot    : Nat
  outSlot   : Nat
  tag       : Nat
  /-- Bit 0 A2, bit 1 A3, bit 2 A4 (chapter 12). -/
  allowed   : BitVec 3
  request   : Nat
  dtx       : Bool
  hangover  : Nat
  tOn       : Nat
  h         : Nat
  decay     : Nat
  echoShift : Nat
  margin    : Nat
  priority  : Priority
  q         : Nat
  d         : Nat
  tmplLen   : Nat
  tmpl      : List Byte
  deriving DecidableEq, Repr

/-- R91. -/
inductive CtxState where
  | closed
  | active
  | closing
  deriving DecidableEq, Repr

inductive Talk where
  | quiet
  | talking
  deriving DecidableEq, Repr

/-- An activity detector (R39): `level` is S and `floor` is N of the manual. -/
structure Detector where
  level : Nat
  floor : Nat
  talk  : Talk
  deriving DecidableEq, Repr

/-- R51. -/
inductive DtxState where
  | speech
  | hangover (c : Nat)
  | silent (n : Nat)
  deriving DecidableEq, Repr

/-- R21. -/
inductive DecState where
  | initial
  | normal
  | comfort
  deriving DecidableEq, Repr

/-- The frame types of R16. -/
inductive FrameType where
  | sid
  | a2
  | a3
  | a4
  deriving DecidableEq, Repr

/-- A playout entry (R125). -/
structure PlayEntry where
  seq     : Byte
  type    : FrameType
  request : Nat
  onset   : Bool
  body    : List Byte
  blocks  : Nat
  deriving DecidableEq, Repr

/-- An accumulator half (R65). -/
structure Half where
  codes    : List Byte
  talkSeen : Bool
  seq      : Byte
  deriving DecidableEq, Repr

/-- The coder state of R21 that the decoder owns. -/
structure DecFields where
  recon   : Int
  loss    : Nat
  state   : DecState
  comfort : Nat
  gen     : BitVec 16
  latest  : Nat
  deriving DecidableEq, Repr

/-- The coder and DTX state that the encoder owns (R21, R51). -/
structure EncFields where
  recon : Int
  xPrev : Int
  dtx   : DtxState
  deriving DecidableEq, Repr

/-- The nine counters (R107). -/
structure Counters where
  encoded       : Nat
  sent          : Nat
  uplinkMissed  : Nat
  egressDropped : Nat
  received      : Nat
  late          : Nat
  rejected      : Nat
  concealed     : Nat
  slips         : Nat
  deriving DecidableEq, Repr

/-- The four edge flags of a context (R108). -/
structure Edges where
  uplinkMissed : Bool
  egressFull   : Bool
  slip         : Bool
  rejected     : Bool
  deriving DecidableEq, Repr

/-- A context record (R89, R90 and the table at the head of section 6.1). -/
structure Context where
  cfg         : Captured
  state       : CtxState
  closeTag    : Byte
  closeCode   : Byte
  runningJobs : Nat
  half0       : Half
  half1       : Half
  /-- The number of the filling half is 1. -/
  fillingOne  : Bool
  seqCounter  : Byte
  /-- P, the buffer playing (R69). -/
  p           : List Byte
  /-- N, the buffer the decoder fills (R69). -/
  n           : List Byte
  nReady      : Bool
  replay      : Nat
  inDet       : Detector
  outDet      : Detector
  enc         : EncFields
  dec         : DecFields
  playout     : List PlayEntry
  expected    : Option Byte
  counters    : Counters
  edges       : Edges
  deriving DecidableEq, Repr

/-! ### Frame fetch unit (chapter 7) -/

inductive FetchState where
  | waiting
  | reading
  deriving DecidableEq, Repr

structure FetchEntry where
  slot  : Nat
  state : FetchState
  deriving DecidableEq, Repr

/-- The read a fetch waits for: its header read, or the body burst from word `next` with what was read before (R115,
R116). -/
inductive FetchPhase where
  | header
  | body (length tag next : Nat) (bytes : List Byte)
  deriving DecidableEq, Repr

/-- What the fetch buffer serves (R112). -/
structure Fetch where
  slot  : Nat
  stale : Bool
  phase : FetchPhase
  deriving DecidableEq, Repr

structure Ffu where
  queue   : List FetchEntry
  buffer  : Option Fetch
  overrun : Bool
  deriving DecidableEq, Repr

/-! ### Frame pool (R123, R124) -/

structure Pool where
  free : Nat
  low  : Bool
  deriving DecidableEq, Repr

/-! ### Conversion engine (chapter 8) -/

inductive JobKind where
  | encode
  | decode
  deriving DecidableEq, Repr

/-- A pending job: its context and its kind, nothing else (R132). -/
structure Job where
  ctx  : Nat
  kind : JobKind
  deriving DecidableEq, Repr

/-- The coding modes (R16). -/
inductive Mode where
  | a2
  | a3
  | a4
  deriving DecidableEq, Repr

/-- The copies and decisions of an encode job at its start (R135). `waiting` is set while it waits for its write group. -/
structure EncodeJob where
  ctx       : Nat
  codes     : List Byte
  seq       : Byte
  talkSeen  : Bool
  inLevel   : Nat
  outLevel  : Nat
  outTalk   : Talk
  law       : Law
  uplink    : Bool
  downlink  : Bool
  dtx       : Bool
  hangover  : Nat
  echoShift : Nat
  margin    : Nat
  tmplLen   : Nat
  tmpl      : List Byte
  enc       : EncFields
  mode      : Mode
  request   : Nat
  waiting   : Bool
  deriving DecidableEq, Repr

/-- What a decode job takes at its start (R139). -/
structure DecodeJob where
  ctx   : Nat
  taken : Option PlayEntry
  p     : List Byte
  law   : Law
  dec   : DecFields
  deriving DecidableEq, Repr

inductive Running where
  | encode (j : EncodeJob)
  | decode (j : DecodeJob)
  deriving DecidableEq, Repr

/-- The job queue, and the jobs the four unnumbered lanes hold (R131, R132). -/
structure Engine where
  jobs    : List Job
  running : List Running
  deriving DecidableEq, Repr

/-! ### Posted write queue and memory port (chapter 9) -/

/-- An entry of the queue: one word of a write of the part (R150). -/
structure QWord where
  addr  : Nat
  lanes : Lanes
  deriving DecidableEq, Repr

/-- A write group (R151). An egress frame group holds its reserved slot, and its words by their index in the slot and the
producer word's place last; its addresses follow from the slot (R161, R162). -/
inductive Group where
  | egress (ctx slot : Nat) (words : List (Nat × Lanes))
  | notice (words : List QWord)
  | status (word : QWord)
  | indexReset (words : List QWord)
  deriving DecidableEq, Repr

/-- The queue and the order of waiting groups (R150). -/
structure Pwq where
  entries : List QWord
  waiting : List Group
  deriving DecidableEq, Repr

/-- The grant counters of the arbiter (R148). -/
structure Mpa where
  drainCount : Nat
  fetchCount : Nat
  deriving DecidableEq, Repr

/-! ### Output rings and lines (chapter 10) -/

/-- The egress ring writer (R159), with the READY line (R164). -/
structure Erw where
  producer : Nat
  waiting  : Nat
  consumer : Nat
  latch    : Bool
  ready    : Bool
  deriving DecidableEq, Repr

/-- The notice writer (R167, R169), with the EVENT line (R170). -/
structure Ntw where
  producer : Nat
  consumer : Nat
  waiting  : Nat
  lost     : Bool
  timer    : Nat
  latch    : Bool
  event    : Bool
  deriving DecidableEq, Repr

/-- The whole part, frame memory behind it, and the queue of commands that wait. -/
structure State where
  part      : Part
  clocks    : Clocks
  tsm       : Tsm
  ctxs      : List Context
  shadow    : Memory
  ffu       : Ffu
  tags      : List (Nat × Nat)
  pool      : Pool
  engine    : Engine
  pwq       : Pwq
  mpa       : Mpa
  erw       : Erw
  ntw       : Ntw
  mem       : Memory
  /-- The model's own field: the bytes the last granted master read returned (R154, R72). -/
  readData  : List Byte
  /-- The model's own field: how many reads have met an address the fitted SDRAM cannot hold (notes/assumptions/26.md). -/
  openReads : Nat
  /-- The model's own field: the bytes of SDRAM fitted behind the part, from address 0. They are the card's, and no strap
  gives them to the part (R171's Caution; notes/assumptions/9.md). -/
  fitted    : Nat
  /-- The commands waiting, first in, first out. -/
  pending   : List Instr
  deriving DecidableEq, Repr

/-! ### Reset values -/

def Detector.cleared : Detector := { level := 0, floor := 0, talk := .quiet }

def Half.cleared : Half := { codes := List.replicate Config.period 0, talkSeen := false, seq := 0 }

def Counters.zero : Counters :=
  { encoded := 0, sent := 0, uplinkMissed := 0, egressDropped := 0, received := 0, late := 0, rejected := 0,
    concealed := 0, slips := 0 }

def Edges.clear : Edges := { uplinkMissed := false, egressFull := false, slip := false, rejected := false }

/-- R89: every captured field 0. -/
def Captured.cleared : Captured :=
  { law := .seg13, uplink := false, downlink := false, inSlot := 0, outSlot := 0, tag := 0, allowed := 0, request := 0,
    dtx := false, hangover := 0, tOn := 0, h := 0, decay := 0, echoShift := 0, margin := 0, priority := .normal, q := 0,
    d := 0, tmplLen := 0, tmpl := List.replicate 8 0 }

/-- The last column of R110's table. -/
def Context.cleared : Context :=
  { cfg := .cleared, state := .closed, closeTag := 0, closeCode := 0, runningJobs := 0,
    half0 := .cleared, half1 := .cleared, fillingOne := false, seqCounter := 0,
    p := List.replicate Config.period 0, n := List.replicate Config.period 0, nReady := false, replay := 0,
    inDet := .cleared, outDet := .cleared,
    enc := { recon := 0, xPrev := 0, dtx := .silent 0 },
    dec := { recon := 0, loss := 0, state := .initial, comfort := 0, gen := 0, latest := 0 },
    playout := [], expected := none, counters := .zero, edges := .clear }

/-- R172, with the straps sampled. The START settings before the first START are DESIGN CHOICE (notes/assumptions/11.md). -/
def Part.cleared (cbBase : BitVec 13) (memSize : BitVec 3) : Part :=
  { state := .idle, cbBase := cbBase, memSize := memSize, windows := none, trigger := 1, quietLimit := 0,
    readyMode := .level, threshold := 1 }

/-- The part right after a reset with the straps sampled as given, over the shadow and frame memory given (R172, R73).
SDRAM is fitted at every address: DESIGN CHOICE (notes/assumptions/9.md). -/
def State.afterReset (cbBase : BitVec 13) (memSize : BitVec 3) (shadow mem : Memory) : State :=
  { part := .cleared cbBase memSize
    clocks := { inPos := 0, inFrame := 0, frameNo := 0, outPos := 0, outFrame := 0 }
    tsm := { taps := List.replicate Config.timeslots [], claims := List.replicate Config.timeslots [] }
    ctxs := List.replicate Config.contexts .cleared
    shadow := shadow
    ffu := { queue := [], buffer := none, overrun := false }
    tags := []
    pool := { free := Config.poolBlocks, low := false }
    engine := { jobs := [], running := [] }
    pwq := { entries := [], waiting := [] }
    mpa := { drainCount := 0, fetchCount := 0 }
    erw := { producer := 0, waiting := 0, consumer := 0, latch := false, ready := false }
    ntw := { producer := 0, consumer := 0, waiting := 0, lost := false, timer := 0, latch := false, event := false }
    mem := mem
    readData := []
    openReads := 0
    fitted := Config.addressSpace
    pending := [] }

/-- The part right after power-on clear (R172). The straps are the card's: DESIGN CHOICE 0 (notes/assumptions/10.md). Frame
memory lists nothing (notes/assumptions/8.md). -/
def State.reset : State := .afterReset 0 0 [] []

end Sys2Proof.Machine
end

