-- ==== Sys2Proof/Machine/Arithmetic.lean ====
section
/-! DEFINITION. The arithmetic forms of 00_scope.md 4.3, and bytes to and from words. -/
namespace Sys2Proof.Machine

/-- "Shifted right by n places, rounding toward minus infinity" (00_scope.md 4.3, R2). -/
def shiftRight (x : Int) (n : Nat) : Int := x / (2 ^ n : Int)

/-- "Clamped to a..b" (00_scope.md 4.3). -/
def clamp (a b x : Int) : Int := if x < a then a else if b < x then b else x

/-- The 16-bit range of a linear sample (R1). -/
def clampSample (x : Int) : Int := clamp (-32768) 32767 x

/-- A counter that saturates at 65535 (00_scope.md 4.3, R107). -/
def satInc (n : Nat) : Nat := min (n + 1) 65535

/-- The distance of a sequence number from expected, modulo 256 (R125, 00_scope.md 4.3). -/
def distance (expected seq : Byte) : Nat := (seq - expected).toNat

/-- The low byte of a number. -/
def byte0 (n : Nat) : Byte := BitVec.ofNat 8 n

/-- The second byte of a number, little-endian (R178). -/
def byte1 (n : Nat) : Byte := BitVec.ofNat 8 (n / 256)

/-- The bits of a byte, most significant first (R17). -/
def byteBits (b : Byte) : List Bool :=
  [b.getLsbD 7, b.getLsbD 6, b.getLsbD 5, b.getLsbD 4, b.getLsbD 3, b.getLsbD 2, b.getLsbD 1, b.getLsbD 0]

/-- A list of bits, most significant first, as a number. -/
def bitsNat : List Bool → Nat
  | [] => 0
  | b :: bs => (if b then 2 ^ bs.length else 0) + bitsNat bs

/-- A list of bits, most significant first, read in two's complement (R17). -/
def bitsInt : List Bool → Int
  | [] => 0
  | b :: bs => (bitsNat bs : Int) - (if b then 2 ^ bs.length else 0)

/-- The `b` bits of `k` in two's complement, most significant first (R17). -/
def intBits (b : Nat) (k : Int) : List Bool :=
  (List.range b).map fun i => decide (k / (2 ^ (b - 1 - i) : Int) % 2 = 1)

/-- Eight bits to a byte, from the most significant bit of the first byte downward (R17). -/
def packBytes : List Bool → List Byte
  | b7 :: b6 :: b5 :: b4 :: b3 :: b2 :: b1 :: b0 :: rest =>
    BitVec.ofNat 8 (bitsNat [b7, b6, b5, b4, b3, b2, b1, b0]) :: packBytes rest
  | _ => []

/-- The first `n` groups of `b` bits of a bit stream. -/
def groupBits (b : Nat) : Nat → List Bool → List (List Bool)
  | 0, _ => []
  | n + 1, bits => bits.take b :: groupBits b n (bits.drop b)

end Sys2Proof.Machine
end

