-- ==== Sys2Proof/Machine/Companding.lean ====
section
/-! DEFINITION. Chapter 1: codes, laws, expansion, compression, magnitude index, attenuation. -/
namespace Sys2Proof.Machine

/-- A plain byte from its three fields (R3). -/
def plainByte (sign : Bool) (e m : Nat) : Byte := BitVec.ofNat 8 ((if sign then 128 else 0) + 16 * e + m)

/-- The law's inversion, its own inverse (R3). -/
def invert : Law → Byte → Byte
  | .seg13, c => c ^^^ 0x55#8
  | .seg15, c => ~~~c

/-- Bit 7 of a plain byte (R3). -/
def plainSign (b : Byte) : Bool := b.getLsbD 7

/-- Segment e: bits 6..4 of a plain byte (R3). -/
def plainSegment (b : Byte) : Nat := b.toNat / 16 % 8

/-- Step m: bits 3..0 of a plain byte (R3). -/
def plainStep (b : Byte) : Nat := b.toNat % 16

/-- R4's magnitude. -/
def magnitude13 (e m : Nat) : Nat := if e = 0 then 16 * m + 8 else (2 * m + 33) * 2 ^ (e + 2)

/-- R7's magnitude. -/
def magnitude15 (e m : Nat) : Nat := (2 * m + 33) * 2 ^ (e + 2) - 132

/-- Expansion of a code (R4, R7). -/
def expand (law : Law) (c : Byte) : Int :=
  let b := invert law c
  match law with
  | .seg13 => if plainSign b then magnitude13 (plainSegment b) (plainStep b) else -(magnitude13 (plainSegment b) (plainStep b) : Int)
  | .seg15 => if plainSign b then -(magnitude15 (plainSegment b) (plainStep b) : Int) else magnitude15 (plainSegment b) (plainStep b)

/-- R5 step 4: the e in 1..7 with 32·2^(e−1) ≤ y < 32·2^e. -/
def segment13 (y : Nat) : Nat :=
  if y < 32 then 0 else if y < 64 then 1 else if y < 128 then 2 else if y < 256 then 3 else if y < 512 then 4
  else if y < 1024 then 5 else if y < 2048 then 6 else 7

/-- R8 step 3: the position of the highest set bit of y, minus 7. -/
def segment15 (y : Nat) : Nat :=
  if y < 256 then 0 else if y < 512 then 1 else if y < 1024 then 2 else if y < 2048 then 3 else if y < 4096 then 4
  else if y < 8192 then 5 else if y < 16384 then 6 else 7

/-- R5. -/
def compress13 (x : Int) : Byte :=
  let y := min x.natAbs 32767 / 8
  let e := segment13 y
  let m := if e = 0 then y / 2 else y / 2 ^ e - 16
  invert .seg13 (plainByte (decide (0 ≤ x)) e m)

/-- R8. -/
def compress15 (x : Int) : Byte :=
  let y := min x.natAbs 32635 + 132
  let e := segment15 y
  let m := y / 2 ^ (e + 3) % 16
  invert .seg15 (plainByte (decide (x < 0)) e m)

/-- Compression of a linear value (R5, R8). -/
def compress : Law → Int → Byte
  | .seg13 => compress13
  | .seg15 => compress15

/-- The silence code (R6, R9). -/
def silence : Law → Byte
  | .seg13 => 0xD5
  | .seg15 => 0xFF

/-- The 160 silence codes a buffer is filled with (R6, R9). -/
def silenceCodes (law : Law) : List Byte := List.replicate Config.period (silence law)

/-- The magnitude index u of a code (R11). -/
def magnitudeIndex (law : Law) (c : Byte) : Nat :=
  let b := invert law c
  16 * plainSegment b + plainStep b

/-- Attenuation of a code by a shift 0..3 (R12). -/
def attenuate (law : Law) (a : Nat) (c : Byte) : Byte :=
  if a = 0 then c else compress law (shiftRight (expand law c) a)

end Sys2Proof.Machine
end

