-- ==== Sys2Proof/Machine/Coder.lean ====
section
/-! DEFINITION. Chapter 2: the block delta coder, silence descriptors, comfort noise, concealment and mode adaptation, as
functions of samples, codes and coder fields alone. -/
namespace Sys2Proof.Machine

/-! ### Frames (R15 to R18) -/

/-- Type codes (R16). -/
def FrameType.code : FrameType → Nat
  | .sid => 1 | .a2 => 2 | .a3 => 3 | .a4 => 4

/-- The type of a type code; 0, 5, 6 and 7 denote no frame of this coder (R16). -/
def FrameType.ofCode : Nat → Option FrameType
  | 1 => some .sid | 2 => some .a2 | 3 => some .a3 | 4 => some .a4 | _ => none

/-- Bits of a residual code (R16); a SID frame has none. -/
def FrameType.bits : FrameType → Nat
  | .sid => 0 | .a2 => 2 | .a3 => 3 | .a4 => 4

/-- Total bytes of a frame (R16). -/
def FrameType.bytes : FrameType → Nat
  | .sid => 3 | .a2 => 44 | .a3 => 64 | .a4 => 84

/-- Pool blocks of a frame (R16). -/
def FrameType.blocks : FrameType → Nat
  | .sid => 1 | .a2 => 2 | .a3 => 2 | .a4 => 3

/-- The frame type of a coding mode (R16). -/
def Mode.type : Mode → FrameType
  | .a2 => .a2 | .a3 => .a3 | .a4 => .a4

/-- Mode numbers (R16). -/
def Mode.number : Mode → Nat
  | .a2 => 1 | .a3 => 2 | .a4 => 3

/-- L, the code values on each side of zero (R16). -/
def Mode.levels : Mode → Nat
  | .a2 => 2 | .a3 => 4 | .a4 => 8

/-! ### Step table and predictor -/

/-- T[q] (R19). -/
def stepSize (q : Nat) : Nat :=
  [16, 23, 32, 45, 64, 91, 128, 181, 256, 362, 512, 724, 1024, 1448, 2048, 2896].getD q 2896

/-- R20. -/
def pred (v : Int) : Int := shiftRight (7 * v) 3

/-! ### Encoding a speech frame -/

/-- The open-loop residuals of a run of inputs after `prev` (R24 step 1). -/
def openLoop (prev : Int) : List Int → List Nat
  | [] => []
  | x :: xs => (x - pred prev).natAbs :: openLoop x xs

/-- R24 step 3. -/
def chooseStep (l peak : Nat) : Nat :=
  ((List.range 16).find? fun q => decide (peak ≤ stepSize q * (l - 1))).getD 15

/-- The step index of a sub-block whose input before the first is `prev` (R24). -/
def stepIndex (l : Nat) (prev : Int) (xs : List Int) : Nat := chooseStep l ((openLoop prev xs).foldl max 0)

/-- The reconstruction of a residual code (R25 step 4, R27). -/
def reconstruct (delta : Nat) (recon k : Int) : Int := clampSample (pred recon + k * delta)

/-- R25 steps 1 to 3. -/
def quantise (l delta : Nat) (recon x : Int) : Int :=
  clamp (-(l : Int)) (l - 1) ((2 * (x - pred recon) + delta) / (2 * (delta : Int)))

/-- Each sample's residual code and reconstruction, in order (R25). -/
def quantiseAll (l delta : Nat) (recon : Int) : List Int → List (Int × Int)
  | [] => []
  | x :: xs =>
    let k := quantise l delta recon x
    let r := reconstruct delta recon k
    (k, r) :: quantiseAll l delta r xs

/-- The coding of one speech frame: step indices, residual codes and reconstructions. -/
structure SpeechCoding where
  steps  : List Nat
  codes  : List Int
  recons : List Int
  deriving DecidableEq, Repr

/-- The sub-blocks in turn, each with its own step choice (R23 to R25). -/
def encodeBlocks (l : Nat) : Nat → Int → Int → List Int → SpeechCoding
  | 0, _, _, _ => { steps := [], codes := [], recons := [] }
  | n + 1, recon, prev, xs =>
    let block := xs.take 40
    let q := stepIndex l prev block
    let out := quantiseAll l (stepSize q) recon block
    let rest := encodeBlocks l n ((out.map Prod.snd).getLastD recon) (block.getLastD prev) (xs.drop 40)
    { steps := q :: rest.steps, codes := out.map Prod.fst ++ rest.codes, recons := out.map Prod.snd ++ rest.recons }

/-- The four sub-blocks of a frame of 160 inputs (R23). -/
def encodeSpeech (mode : Mode) (recon xPrev : Int) (xs : List Int) : SpeechCoding :=
  encodeBlocks mode.levels 4 recon xPrev xs

/-- The body of a speech frame: two bytes of step indices, then the residual bit stream (R17, 12.3). -/
def speechBody (mode : Mode) (c : SpeechCoding) : List Byte :=
  BitVec.ofNat 8 (16 * c.steps.getD 0 0 + c.steps.getD 1 0)
    :: BitVec.ofNat 8 (16 * c.steps.getD 2 0 + c.steps.getD 3 0)
    :: packBytes (c.codes.flatMap (intBits mode.type.bits))

/-! ### Decoding a speech frame -/

/-- The four step indices of a speech body (12.3, R180). -/
def bodySteps (body : List Byte) : List Nat :=
  let a := (body.getD 0 0).toNat
  let b := (body.getD 1 0).toNat
  [a / 16, a % 16, b / 16, b % 16]

/-- The 160 residual codes of a speech body, read as signed values (R17, R27). -/
def bodyCodes (type : FrameType) (body : List Byte) : List Int :=
  (groupBits type.bits Config.period ((body.drop 2).flatMap byteBits)).map bitsInt

/-- The reconstructions of a run of residual codes under one step size (R27). -/
def decodeBlock (delta : Nat) (recon : Int) : List Int → List Int
  | [] => []
  | k :: ks =>
    let r := reconstruct delta recon k
    r :: decodeBlock delta r ks

/-- The reconstructions of the sub-blocks in turn (R27). -/
def decodeBlocks : List Nat → Int → List Int → List Int
  | [], _, _ => []
  | q :: qs, recon, ks =>
    let out := decodeBlock (stepSize q) recon (ks.take 40)
    out ++ decodeBlocks qs (out.getLastD recon) (ks.drop 40)

/-- The 160 linear outputs of a speech frame (R27). -/
def decodeSpeech (type : FrameType) (recon : Int) (body : List Byte) : List Int :=
  decodeBlocks (bodySteps body) recon (bodyCodes type body)

/-! ### Silence descriptors and comfort noise -/

/-- The amplitude of a comfort level (R31). -/
def amp (level : Nat) : Nat := (4 + level % 4) * 2 ^ (level / 4)

/-- The mean magnitude of a frame (R29 step 1). -/
def meanMagnitude (xs : List Int) : Nat := (xs.foldl (fun n x => n + x.natAbs) 0) / Config.period

/-- The SID level of a frame (R29). -/
def sidLevel (xs : List Int) : Nat :=
  ((List.range 48).find? fun v => decide (2 * meanMagnitude xs ≤ amp v)).getD 47

/-- One step of the generator (R30). -/
def genStep (g : BitVec 16) : BitVec 16 :=
  let bit := (g.getLsbD 0 ^^ g.getLsbD 2) ^^ (g.getLsbD 3 ^^ g.getLsbD 5)
  BitVec.ofNat 16 (g.toNat / 2 + if bit then 32768 else 0)

/-- The noise sample for a generator value after its step (R31). -/
def noiseSample (level : Nat) (g : BitVec 16) : Int := shiftRight (g.toInt * amp level) 15

/-- `n` comfort noise samples, and the generator after them (R31). -/
def comfortNoise (level : Nat) : Nat → BitVec 16 → List Int × BitVec 16
  | 0, g => ([], g)
  | n + 1, g =>
    let g' := genStep g
    let rest := comfortNoise level n g'
    (noiseSample level g' :: rest.1, rest.2)

/-! ### What a decode job computes (R140) -/

/-- The work of a decode job: the 160 codes for N, the decoder fields after it, and whether it concealed. -/
structure DecodeResult where
  codes     : List Byte
  dec       : DecFields
  concealed : Bool
  deriving DecidableEq, Repr

/-- R36: a field of 0 leaves the latest request received as it was. -/
def newLatest (request latest : Nat) : Nat := if request = 0 then latest else request

/-- R27, R28. -/
def decodeSpeechFrame (law : Law) (d : DecFields) (e : PlayEntry) : DecodeResult :=
  let out := decodeSpeech e.type (if e.onset then 0 else d.recon) e.body
  { codes := out.map (compress law)
    dec := { d with recon := out.getLastD d.recon, loss := 0, state := .normal, latest := newLatest e.request d.latest }
    concealed := false }

/-- R32: a received level byte of 48..255 is taken as 47 (R18). -/
def decodeSidFrame (law : Law) (d : DecFields) (e : PlayEntry) : DecodeResult :=
  let level := min (e.body.getD 0 0).toNat 47
  let out := comfortNoise level Config.period d.gen
  { codes := out.1.map (compress law)
    dec := { d with recon := 0, loss := 0, state := .comfort, comfort := level, gen := out.2,
                    latest := newLatest e.request d.latest }
    concealed := false }

/-- R33. -/
def decodeHeldNoise (law : Law) (d : DecFields) : DecodeResult :=
  let out := comfortNoise d.comfort Config.period d.gen
  { codes := out.1.map (compress law), dec := { d with gen := out.2 }, concealed := false }

/-- R34. -/
def conceal (law : Law) (p : List Byte) (d : DecFields) : DecodeResult :=
  let c := min (d.loss + 1) 4
  let codes := if c = 4 then silenceCodes law else p.map (attenuate law 1)
  { codes := codes
    dec := { d with loss := c, recon := expand law (codes.getLastD (silence law)) }
    concealed := true }

/-- R35. -/
def decodeInitial (law : Law) (d : DecFields) : DecodeResult :=
  { codes := silenceCodes law, dec := d, concealed := false }

/-- The cases of R140's table. -/
def decodeWork (j : DecodeJob) : DecodeResult :=
  match j.taken with
  | some e => if e.type = .sid then decodeSidFrame j.law j.dec e else decodeSpeechFrame j.law j.dec e
  | none =>
    match j.dec.state with
    | .initial => decodeInitial j.law j.dec
    | .normal => conceal j.law j.p j.dec
    | .comfort => decodeHeldNoise j.law j.dec

/-! ### Mode adaptation -/

/-- Mode number `m` (1 A2, 2 A3, 3 A4) is in the allowed set (R16, chapter 12). -/
def allows (allowed : BitVec 3) (m : Nat) : Bool := decide (1 ≤ m) && allowed.getLsbD (m - 1)

/-- The mode of a mode number. -/
def Mode.ofNumber : Nat → Mode
  | 3 => .a4 | 2 => .a3 | _ => .a2

/-- R37's adapt: the requested mode, else the highest allowed below it, else the lowest allowed. -/
def adapt (request : Nat) (allowed : BitVec 3) : Mode :=
  Mode.ofNumber <|
    if allows allowed request then request
    else
      match [3, 2, 1].find? fun m => decide (m < request) && allows allowed m with
      | some m => m
      | none => ([1, 2, 3].find? fun m => allows allowed m).getD 1

end Sys2Proof.Machine
end

