-- ==== Sys2Proof/Machine/Activity.lean ====
section
/-! DEFINITION. Chapter 3: activity detectors, echo suppression, frame activity and the DTX state machine; and the work of
an encode job (R136), which puts them in order. -/
namespace Sys2Proof.Machine

/-- The largest detector level, 127 × 65536 (R39). -/
abbrev detectorTop : Nat := 8323072

/-- Both detectors' values at OPEN (R42). -/
def Detector.opened : Detector := { level := 0, floor := detectorTop, talk := .quiet }

/-- R43: the first part of a step. -/
def stepLevel (decay u level : Nat) : Nat :=
  if level < u then level + (u - level) / 2 else level - level / 2 ^ (8 + decay)

/-- R44: the second part of a step, with the talk state before the step. -/
def stepFloor (talk : Talk) (u floor : Nat) : Nat :=
  if u < floor then floor - (floor - u) / 64
  else if floor < u then (match talk with | .quiet => floor + (u - floor) / 32768 | .talking => floor)
  else floor

/-- R45: the third part of a step, with S and N as the first two left them. -/
def stepTalk (tOn h : Nat) (talk : Talk) (level floor : Nat) : Talk :=
  match talk with
  | .quiet => if floor + tOn * 65536 < level then .talking else .quiet
  | .talking => if level < floor + (tOn - min h tOn) * 65536 then .quiet else .talking

/-- One step of a detector on a code of magnitude index `u` (R43 to R46). -/
def Detector.step (cfg : Captured) (u : Nat) (d : Detector) : Detector :=
  let level := stepLevel cfg.decay (u * 65536) d.level
  let floor := stepFloor d.talk (u * 65536) d.floor
  { level := level, floor := floor, talk := stepTalk cfg.tOn cfg.h d.talk level floor }

/-- The steps of a detector over a run of codes, in order (R41). -/
def Detector.stepAll (cfg : Captured) (codes : List Byte) (d : Detector) : Detector :=
  codes.foldl (fun d c => d.step cfg (magnitudeIndex cfg.law c)) d

/-- R48, from the copies of the job. -/
def echoSuppressed (j : EncodeJob) : Bool :=
  (j.uplink && j.downlink) && (decide (1 ≤ j.echoShift) && decide (j.echoShift ≤ 3)) &&
    (decide (j.outTalk = .talking) && decide (j.inLevel + j.margin * 65536 ≤ j.outLevel))

/-- The 160 linear samples of the frame, shifted where it is suppressed (R49). -/
def frameSamples (j : EncodeJob) : List Int :=
  let xs := j.codes.map (expand j.law)
  if echoSuppressed j then xs.map (shiftRight · j.echoShift) else xs

/-- R50. -/
def frameActive (j : EncodeJob) : Bool := if j.dtx then j.talkSeen && !echoSuppressed j else true

/-- The kind of frame a DTX step decides (R52 to R55). -/
inductive FrameKind where
  | speech (onset : Bool)
  | sid
  | nodata
  deriving DecidableEq, Repr

/-- The table of R52 to R54, with hangover setting `h`. -/
def dtxStep (h : Nat) (active : Bool) : DtxState → DtxState × FrameKind
  | .speech =>
    if active then (.speech, .speech false)
    else if h = 0 then (.silent 7, .sid) else (.hangover h, .speech false)
  | .hangover c =>
    if active then (.speech, .speech false)
    else if c = 0 then (.silent 7, .sid) else (.hangover (c - 1), .speech false)
  | .silent n =>
    if active then (.speech, .speech true)
    else if n = 0 then (.silent 7, .sid) else (.silent (n - 1), .nodata)

/-- A mobile frame to be sent (R15). -/
structure Frame where
  seq     : Byte
  type    : FrameType
  request : Nat
  onset   : Bool
  body    : List Byte
  deriving DecidableEq, Repr

/-- What the work of an encode job leaves: the encoder and DTX state after it, and the frame, if the kind is not NODATA. -/
structure EncodeResult where
  enc   : EncFields
  frame : Option Frame
  deriving DecidableEq, Repr

/-- R23, R26, R55: the coding of a speech frame of the job. -/
def encodeSpeechFrame (j : EncodeJob) (dtx : DtxState) (onset : Bool) : EncodeResult :=
  let xs := frameSamples j
  let recon := if onset then 0 else j.enc.recon
  let xPrev := if onset then 0 else j.enc.xPrev
  let c := encodeSpeech j.mode recon xPrev xs
  { enc := { recon := c.recons.getLastD recon, xPrev := xs.getLastD xPrev, dtx := dtx }
    frame := some { seq := j.seq, type := j.mode.type, request := j.request, onset := onset, body := speechBody j.mode c } }

/-- R29, R55. -/
def encodeSidFrame (j : EncodeJob) (dtx : DtxState) : EncodeResult :=
  { enc := { j.enc with dtx := dtx }
    frame := some { seq := j.seq, type := .sid, request := j.request, onset := false,
                    body := [BitVec.ofNat 8 (sidLevel (frameSamples j))] } }

/-- R136. -/
def encodeWork (j : EncodeJob) : EncodeResult :=
  match dtxStep j.hangover (frameActive j) j.enc.dtx with
  | (dtx, .speech onset) => encodeSpeechFrame j dtx onset
  | (dtx, .sid) => encodeSidFrame j dtx
  | (dtx, .nodata) => { enc := { j.enc with dtx := dtx }, frame := none }

end Sys2Proof.Machine
end

