-- ==== Sys2Proof/Machine/Memory.lean ====
section
/-! DEFINITION. Byte storage in canonical form: frame memory and the control-area shadow, and the bytes of a burst. An
unlisted address reads as 0: for the shadow as power-on clear leaves it (R73), for frame memory by choice
(notes/assumptions/8.md). -/
namespace Sys2Proof.Machine

/-- What an unlisted address reads as. -/
abbrev Memory.blank : Byte := 0

/-- The byte at an address. -/
def Memory.get : Memory → Nat → Byte
  | [], _ => Memory.blank
  | (a, b) :: rest, x => if a = x then b else Memory.get rest x

/-- The memory with one byte written; writing the byte an unlisted address reads as removes the entry. -/
def Memory.put : Memory → Nat → Byte → Memory
  | [], x, v => if v = Memory.blank then [] else [(x, v)]
  | (a, b) :: rest, x, v =>
    if x < a then (if v = Memory.blank then (a, b) :: rest else (x, v) :: (a, b) :: rest)
    else if x = a then (if v = Memory.blank then rest else (x, v) :: rest)
    else (a, b) :: Memory.put rest x v

/-- The canonical form: addresses strictly rising, no entry equal to what an unlisted address reads as. -/
def Memory.wf : Memory → Bool
  | [] => true
  | (a, b) :: rest => b != Memory.blank && rest.all (fun c => decide (a < c.1)) && Memory.wf rest

/-- The memory with a list of bytes written, in order. -/
def Memory.putAll (m : Memory) (cells : List (Nat × Byte)) : Memory := cells.foldl (fun m c => Memory.put m c.1 c.2) m

/-- The enabled bytes of a word at an address, with their addresses. -/
def laneCells (a : Nat) (l : Lanes) : List (Nat × Byte) :=
  ([(a, l.b0), (a + 1, l.b1), (a + 2, l.b2), (a + 3, l.b3)] : List (Nat × Option Byte)).filterMap
    fun c => c.2.map fun b => (c.1, b)

/-- The enabled bytes of words at consecutive word addresses. -/
def wordCells : Nat → List Lanes → List (Nat × Byte)
  | _, [] => []
  | a, l :: ls => laneCells a l ++ wordCells (a + 4) ls

/-- The bytes a write burst enables, with their addresses. -/
def burstCells (b : WriteBurst) : List (Nat × Byte) := wordCells b.addr.toNat b.words

/-- The byte enabled at an address, in a list of cells. -/
def cellAt (cells : List (Nat × Byte)) (a : Nat) : Option Byte := (cells.find? fun c => decide (c.1 = a)).map (·.2)

/-- A list of cells enables an address. -/
def covers (cells : List (Nat × Byte)) (a : Nat) : Bool := cells.any fun c => decide (c.1 = a)

/-- A word whose four bytes are all enabled (R178). -/
def fullWord (b0 b1 b2 b3 : Byte) : Lanes := { b0 := some b0, b1 := some b1, b2 := some b2, b3 := some b3 }

/-- Bytes in whole words, the last filled with 0 (R161, R178). -/
def bytesToWords : List Byte → List Lanes
  | [] => []
  | [a] => [fullWord a 0 0 0]
  | [a, b] => [fullWord a b 0 0]
  | [a, b, c] => [fullWord a b c 0]
  | a :: b :: c :: d :: rest => fullWord a b c d :: bytesToWords rest

end Sys2Proof.Machine
end

