-- ==== Sys2Proof/Machine/Operands.lean ====
section
/-! DEFINITION. Chapter 12: the records the part reads from its shadow and from received frames, and the records it writes. -/
namespace Sys2Proof.Machine

/-! ### The control block and the descriptors, as read from the shadow (12.2, R178) -/

/-- A byte field. -/
def field8 (m : Memory) (off : Nat) : Nat := (Memory.get m off).toNat

/-- A 16-bit little-endian field. -/
def field16 (m : Memory) (off : Nat) : Nat := field8 m off + 256 * field8 m (off + 1)

/-- A base address word: bits 27..0, bits 31..28 set aside (R178). -/
def fieldBase (m : Memory) (off : Nat) : Nat :=
  field8 m off + 256 * field8 m (off + 1) + 65536 * field8 m (off + 2) + 16777216 * (field8 m (off + 3) % 16)

/-- One bit of a byte field. -/
def fieldBit (m : Memory) (off bit : Nat) : Bool := (Memory.get m off).getLsbD bit

/-- Control-area offset of descriptor `k` (12.2). -/
def descriptor (k : Nat) : Nat := 0x400 + 0x40 * k

/-- The layout fields of the control block (12.2). -/
def readWindows (m : Memory) : Windows :=
  { ingressBase := fieldBase m 0x08, egressBase := fieldBase m 0x0C, slots := field16 m 0x10, frames := field8 m 0x12,
    mobInBase := fieldBase m 0x14, ni := field16 m 0x18, mobOutBase := fieldBase m 0x1C, ne := field16 m 0x20,
    noticeBase := fieldBase m 0x24, nn := field16 m 0x28 }

/-- The law field as read (R89). -/
def rawLaw (m : Memory) (k : Nat) : Nat := field8 m (descriptor k + 8)

/-- The adjustable fields replaced by the descriptor's, with the clamps of R97. -/
def readAdjustable (m : Memory) (k : Nat) (c : Captured) : Captured :=
  let o := descriptor k
  let tOn := field8 m (o + 0x14)
  let q := max 2 (min 8 (field8 m (o + 0x1A)))
  { c with
    allowed := (Memory.get m (o + 0x12)).setWidth 3
    request := min 3 (field8 m (o + 0x13))
    dtx := fieldBit m (o + 0x0B) 0
    hangover := field8 m (o + 0x17) % 16
    tOn := tOn
    h := min tOn (field8 m (o + 0x15))
    decay := field8 m (o + 0x16) % 4
    echoShift := min 3 (field8 m (o + 0x18))
    margin := field8 m (o + 0x19)
    priority := if fieldBit m (o + 0x0A) 0 then .high else .normal
    q := q
    d := min (q - 1) (field8 m (o + 0x1B))
    tmplLen := min 8 (field8 m (o + 0x1C))
    tmpl := (List.range 8).map fun i => Memory.get m (o + 0x20 + i) }

/-- The captured configuration OPEN stores (R89, R97). -/
def readCaptured (m : Memory) (k : Nat) : Captured :=
  let o := descriptor k
  readAdjustable m k
    { Captured.cleared with
      law := if rawLaw m k = 1 then .seg15 else .seg13
      uplink := fieldBit m (o + 9) 0
      downlink := fieldBit m (o + 9) 1
      inSlot := field16 m (o + 0x0C)
      outSlot := field16 m (o + 0x0E)
      tag := field16 m (o + 0x10) }

/-! ### Status words (R94, R173, R179) -/

/-- The results a command can give. -/
inductive Result where
  | done | inProgress | badCommand | badState | busy | notRunning | badParam | tagInUse | timeslotFull | contextsOpen | badLayout
  deriving DecidableEq, Repr

/-- Result codes (R179). -/
def Result.code : Result → Byte
  | .done => 0x01 | .inProgress => 0x02 | .badCommand => 0x10 | .badState => 0x11 | .busy => 0x12 | .notRunning => 0x13
  | .badParam => 0x14 | .tagInUse => 0x15 | .timeslotFull => 0x16 | .contextsOpen => 0x17 | .badLayout => 0x18

/-- R179. -/
def CtxState.code : CtxState → Byte
  | .closed => 0 | .active => 1 | .closing => 2

/-- R179. -/
def PartState.code : PartState → Byte
  | .idle => 0 | .running => 1

/-! ### The mobile frame (12.3, R180) -/

/-- Byte 1 of a frame: type in bits 2..0, mode request in bits 5..4, onset in bit 6. -/
def frameByte1 (type : FrameType) (request : Nat) (onset : Bool) : Byte :=
  BitVec.ofNat 8 (type.code + 16 * request + if onset then 64 else 0)

/-- The bytes of a frame. -/
def Frame.bytes (f : Frame) : List Byte := f.seq :: frameByte1 f.type f.request f.onset :: f.body

/-- The type code a received frame's byte 1 carries; bits 3 and 7 are set aside. -/
def byte1Type (b : Byte) : Nat := b.toNat % 8

/-- The mode request a received frame's byte 1 carries. -/
def byte1Request (b : Byte) : Nat := b.toNat / 16 % 4

/-- The onset flag a received frame's byte 1 carries. -/
def byte1Onset (b : Byte) : Bool := b.getLsbD 6

/-- The playout entry of a received frame of type `type` (R125, R180). -/
def readEntry (type : FrameType) (frame : List Byte) : PlayEntry :=
  { seq := frame.getD 0 0, type := type, request := byte1Request (frame.getD 1 0), onset := byte1Onset (frame.getD 1 0),
    body := frame.drop 2, blocks := type.blocks }

/-! ### Mobile egress slots (12.4, R161, R181) -/

/-- The bytes of an egress slot up to the end of the frame. -/
def egressSlotBytes (ctx : Nat) (frameNo : BitVec 16) (tmpl : List Byte) (f : Frame) : List Byte :=
  let content := tmpl ++ f.bytes
  [byte0 content.length, byte0 ctx, byte1 ctx, 0x80, byte0 frameNo.toNat, byte1 frameNo.toNat, f.seq, byte0 f.type.code]
    ++ content

/-- The words of a list with their indices, from `i`. -/
def indexed : Nat → List Lanes → List (Nat × Lanes)
  | _, [] => []
  | i, l :: ls => (i, l) :: indexed (i + 1) ls

/-- A slot's or a record's words in the order of their group: word 1 onward, then word 0 (R151, R161, R182). -/
def groupOrder (bytes : List Byte) : List (Nat × Lanes) :=
  match indexed 0 (bytesToWords bytes) with
  | [] => []
  | w0 :: rest => rest ++ [w0]

/-! ### The notice record (12.5, R166, R182) -/

/-- Notice kinds (R166). -/
inductive NoticeKind where
  | contextClosed | report | uplinkMissed | egressFull | slip | rejected | poolLow | poolRecovered | fetchOverrun
  deriving DecidableEq, Repr

/-- Kind codes (R166). -/
def NoticeKind.code : NoticeKind → Byte
  | .contextClosed => 1 | .report => 2 | .uplinkMissed => 3 | .egressFull => 4 | .slip => 5 | .rejected => 6
  | .poolLow => 7 | .poolRecovered => 8 | .fetchOverrun => 9

/-- The context field of a part-wide notice (R166). -/
abbrev partWide : Nat := 0xFFFF

/-- The nine counters in the order of a REPORT record (R166). -/
def Counters.list (c : Counters) : List Nat :=
  [c.encoded, c.sent, c.uplinkMissed, c.egressDropped, c.received, c.late, c.rejected, c.concealed, c.slips]

/-- The 32 bytes of a record. -/
def noticeBytes (kind : NoticeKind) (lost : Bool) (ctx : Nat) (frameNo : BitVec 16) (pos : Nat) (counters : List Nat)
    (detail : Nat) : List Byte :=
  [kind.code, if lost then 1 else 0, byte0 ctx, byte1 ctx, byte0 frameNo.toNat, byte1 frameNo.toNat, byte0 pos, 0]
    ++ counters.flatMap (fun n => [byte0 n, byte1 n])
    ++ [byte0 detail, byte1 detail, 0, 0, 0, 0]

end Sys2Proof.Machine
end

