-- ==== Sys2Proof/Machine/Ops.lean ====
section
/-! DEFINITION. The operations the chapters share: context records, the timeslot map, clock positions, write groups, the
bytes of frame memory and the posted write queue over them. -/
namespace Sys2Proof.Machine

/-! ### Context records -/

/-- The record of context `k`. -/
def State.ctx (s : State) (k : Nat) : Context := s.ctxs.getD k Context.cleared

/-- The state with the record of context `k` replaced. -/
def State.setCtx (s : State) (k : Nat) (c : Context) : State := { s with ctxs := s.ctxs.set k c }

/-- The state with the record of context `k` changed. -/
def State.modCtx (s : State) (k : Nat) (f : Context → Context) : State := s.setCtx k (f (s.ctx k))

/-- The state with the counters of context `k` changed (R107). -/
def State.count (s : State) (k : Nat) (f : Counters → Counters) : State :=
  s.modCtx k fun c => { c with counters := f c.counters }

/-- The state with the edge flags of context `k` changed (R108). -/
def State.setEdges (s : State) (k : Nat) (f : Edges → Edges) : State := s.modCtx k fun c => { c with edges := f c.edges }

/-! ### The windows (R58, R171) -/

/-- The window definitions of a part that has none. -/
def Windows.absent : Windows :=
  { ingressBase := 0, egressBase := 0, slots := 0, frames := 0, mobInBase := 0, ni := 0, mobOutBase := 0, ne := 0,
    noticeBase := 0, nn := 0 }

/-- The window definitions held from the last START (R77). -/
def State.win (s : State) : Windows := s.part.windows.getD Windows.absent

/-- The first address of the control area (R171). -/
def State.controlBase (s : State) : Nat := s.part.cbBase.toNat * 32768

/-- The memory size that MEM_SIZE selects, in bytes; codes 5, 6 and 7 select 256 MB. Only START's layout checks read it
(R171). -/
def State.memBytes (s : State) : Nat := 16777216 * 2 ^ min s.part.memSize.toNat 4

/-! ### Positions and slack (R63) -/

/-- The clock position of the boundary of timeslot `t`'s phase group (R63). -/
def boundary (t : Nat) : Nat := 20 * (t % 8)

/-- (clock position − 20g) mod 160 (R63). -/
def sidePosition (clock t : Nat) : Nat := (clock + 160 - boundary t) % 160

/-- A context's ingress position. -/
def State.inPosition (s : State) (c : Context) : Nat := sidePosition s.clocks.inPos c.cfg.inSlot

/-- A context's egress position. -/
def State.outPosition (s : State) (c : Context) : Nat := sidePosition s.clocks.outPos c.cfg.outSlot

/-! ### The timeslot map (chapter 5) -/

/-- The tap set of a timeslot (R80). -/
def State.tapSet (s : State) (t : Nat) : List Nat := s.tsm.taps.getD t []

/-- The claim list of a timeslot (R81). -/
def State.claimList (s : State) (t : Nat) : List Nat := s.tsm.claims.getD t []

/-- The state with the tap set of `t` replaced. -/
def State.setTaps (s : State) (t : Nat) (l : List Nat) : State := { s with tsm := { s.tsm with taps := s.tsm.taps.set t l } }

/-- The state with the claim list of `t` replaced. -/
def State.setClaims (s : State) (t : Nat) (l : List Nat) : State :=
  { s with tsm := { s.tsm with claims := s.tsm.claims.set t l } }

/-- R82 step 3: the context joins the collections its directions call for, at the tail. -/
def State.joinMap (s : State) (k : Nat) (cfg : Captured) : State :=
  let s := if cfg.uplink then s.setTaps cfg.inSlot (s.tapSet cfg.inSlot ++ [k]) else s
  if cfg.downlink then s.setClaims cfg.outSlot (s.claimList cfg.outSlot ++ [k]) else s

/-- R85: the context leaves its collections; the others keep their order. -/
def State.leaveMap (s : State) (k : Nat) (cfg : Captured) : State :=
  let s := if cfg.uplink then s.setTaps cfg.inSlot ((s.tapSet cfg.inSlot).filter (· != k)) else s
  if cfg.downlink then s.setClaims cfg.outSlot ((s.claimList cfg.outSlot).filter (· != k)) else s

/-- R84: the context moves to the head; the others keep their order among themselves. -/
def toHead (k : Nat) (l : List Nat) : List Nat := if k ∈ l then k :: l.filter (· != k) else l

/-! ### Write groups (R151, R152) -/

/-- A write group joins the tail of the order of waiting groups (R151). -/
def State.requestGroup (s : State) (g : Group) : State := { s with pwq := { s.pwq with waiting := s.pwq.waiting ++ [g] } }

/-- The address of word `i` of egress slot `slot` (R161). -/
def State.egressWordAddr (s : State) (slot i : Nat) : Nat := s.win.mobOutBase + 128 * slot + 4 * i

/-- An index word of the control block at control-area offset `off` (R178). -/
def State.indexWord (s : State) (off value : Nat) : QWord :=
  { addr := s.controlBase + off, lanes := fullWord (byte0 value) (byte1 value) 0 0 }

/-- The words of a group, in the order in which they drain (R151, R161). -/
def State.groupWords (s : State) : Group → List QWord
  | .egress _ slot words =>
    words.map (fun w => { addr := s.egressWordAddr slot w.1, lanes := w.2 }) ++ [s.indexWord 0x30 ((slot + 1) % s.win.ne)]
  | .notice words => words
  | .status word => [word]
  | .indexReset words => words

/-- How many words a group has. -/
def Group.size : Group → Nat
  | .egress _ _ words => words.length + 1
  | .notice words => words.length
  | .status _ => 1
  | .indexReset words => words.length

/-- A status word at control-area offset `off` (R179). -/
def State.statusWord (s : State) (off : Nat) (r : Result) (tag code state : Byte) : QWord :=
  { addr := s.controlBase + off, lanes := fullWord r.code tag code state }

/-- The status group of a context command: the state is the context's after the command (R94). -/
def State.ctxStatus (s : State) (k : Nat) (r : Result) (tag code : Byte) : State :=
  s.requestGroup (.status (s.statusWord (descriptor k + 4) r tag code (s.ctx k).state.code))

/-- The status group of a control command: the state is the part's after the command (R173). -/
def State.ctlStatus (s : State) (r : Result) (tag code : Byte) : State :=
  s.requestGroup (.status (s.statusWord 4 r tag code s.part.state.code))

/-! ### Frame memory and the posted write queue over it (R153 to R155) -/

/-- The byte frame memory returns: beyond the fitted SDRAM a free value (R171's Caution; notes/assumptions/9.md). -/
def State.memByte (s : State) (a : Nat) : Byte :=
  if a < s.fitted then Memory.get s.mem a else Config.absentByte s.openReads a

/-- The cells the fitted SDRAM can hold, written to frame memory. -/
def State.storeCells (s : State) (cells : List (Nat × Byte)) : State :=
  { s with mem := Memory.putAll s.mem (cells.filter fun c => decide (c.1 < s.fitted)) }

/-- The byte an entry of the queue enables at an address. -/
def QWord.byteAt (w : QWord) (a : Nat) : Option Byte :=
  if a = w.addr then w.lanes.b0
  else if a = w.addr + 1 then w.lanes.b1
  else if a = w.addr + 2 then w.lanes.b2
  else if a = w.addr + 3 then w.lanes.b3
  else none

/-- Forwarding: a byte overlaid by the queue's entries, oldest first (R154). -/
def forward (entries : List QWord) (a : Nat) (b : Byte) : Byte := entries.foldl (fun b w => (w.byteAt a).getD b) b

/-- The byte a granted read returns, before substitution (R154). -/
def State.readByte (s : State) (a : Nat) : Byte := forward s.pwq.entries a (s.memByte a)

/-- The bytes of a granted read of `n` bytes (R154). -/
def State.readBytes (s : State) (a n : Nat) : List Byte := (List.range n).map fun i => s.readByte (a + i)

/-- The model's count of reads that met an address beyond the fitted SDRAM, after a read of `n` bytes. -/
def State.noteRead (s : State) (a n : Nat) : State :=
  if a + n ≤ s.fitted then s else { s with openReads := s.openReads + 1 }

/-- An entry without the bytes a master write enables (R155). -/
def QWord.strip (cells : List (Nat × Byte)) (w : QWord) : QWord :=
  { w with lanes :=
    { b0 := if covers cells w.addr then none else w.lanes.b0
      b1 := if covers cells (w.addr + 1) then none else w.lanes.b1
      b2 := if covers cells (w.addr + 2) then none else w.lanes.b2
      b3 := if covers cells (w.addr + 3) then none else w.lanes.b3 } }

/-- At least one byte enable of the entry is set (R150). -/
def QWord.enabled (w : QWord) : Bool := w.lanes.b0.isSome || w.lanes.b1.isSome || w.lanes.b2.isSome || w.lanes.b3.isSome

/-- Supersession: the queue without the bytes a master write enables, entries left empty deleted (R155). -/
def State.supersede (s : State) (cells : List (Nat × Byte)) : State :=
  { s with pwq := { s.pwq with entries := (s.pwq.entries.map (QWord.strip cells)).filter QWord.enabled } }

/-! ### The arbiter's counters (R148) -/

/-- R148: a master grant. -/
def State.countMasterGrant (s : State) : State :=
  { s with mpa := { drainCount := min 255 (s.mpa.drainCount + 1), fetchCount := min 255 (s.mpa.fetchCount + 1) } }

/-- R148: a grant to the PWQ. -/
def State.countDrainGrant (s : State) : State := { s with mpa := { s.mpa with drainCount := 0 } }

/-- R148: a grant to the FFU. -/
def State.countFetchGrant (s : State) : State := { s with mpa := { s.mpa with fetchCount := 0 } }

end Sys2Proof.Machine
end

