-- ==== Sys2Proof/Machine/Flags.lean ====
section
/-! DEFINITION. Flags and lines: notices and their edge flags, the pool's LOW flag, READY and EVENT (chapters 7 and 10). -/
namespace Sys2Proof.Machine

/-! ### Notices (R165 to R167) -/

/-- The unconsumed notice count (R167). -/
def State.noticeCount (s : State) : Nat := (s.ntw.producer + s.win.nn - s.ntw.consumer) % s.win.nn

/-- R167: the ring test of a notice request that has passed its gate, and its placing or its drop. -/
def State.placeNotice (s : State) (kind : NoticeKind) (ctx detail : Nat) (counters : List Nat) : State :=
  if (s.ntw.producer + s.ntw.waiting + 1) % s.win.nn = s.ntw.consumer then { s with ntw := { s.ntw with lost := true } }
  else
    let slot := (s.ntw.producer + s.ntw.waiting) % s.win.nn
    let bytes := noticeBytes kind s.ntw.lost ctx s.clocks.frameNo s.clocks.inPos counters detail
    let words := (groupOrder bytes).map fun w => { addr := s.win.noticeBase + 32 * slot + 4 * w.1, lanes := w.2 }
    let s := s.requestGroup (.notice (words ++ [s.indexWord 0x38 ((slot + 1) % s.win.nn)]))
    { s with ntw := { s.ntw with lost := false, waiting := s.ntw.waiting + 1 } }

/-- The counter fields of every kind but REPORT (R166). -/
def noCounters : List Nat := List.replicate 9 0

/-- UPLINK_MISSED, gated by its edge flag (R67, R165). -/
def State.noticeUplinkMissed (s : State) (k detail : Nat) : State :=
  if (s.ctx k).edges.uplinkMissed then s
  else (s.setEdges k fun e => { e with uplinkMissed := true }).placeNotice .uplinkMissed k detail noCounters

/-- EGRESS_FULL, gated by its edge flag (R160, R165). -/
def State.noticeEgressFull (s : State) (k detail : Nat) : State :=
  if (s.ctx k).edges.egressFull then s
  else (s.setEdges k fun e => { e with egressFull := true }).placeNotice .egressFull k detail noCounters

/-- SLIP, gated by its edge flag (R71, R165). -/
def State.noticeSlip (s : State) (k detail : Nat) : State :=
  if (s.ctx k).edges.slip then s
  else (s.setEdges k fun e => { e with slip := true }).placeNotice .slip k detail noCounters

/-- REJECTED, gated by its edge flag (R120, R165). -/
def State.noticeRejected (s : State) (k detail : Nat) : State :=
  if (s.ctx k).edges.rejected then s
  else (s.setEdges k fun e => { e with rejected := true }).placeNotice .rejected k detail noCounters

/-- FETCH_OVERRUN, gated by the part-wide edge flag (R121, R165). -/
def State.noticeOverrun (s : State) (slot : Nat) : State :=
  if s.ffu.overrun then s
  else ({ s with ffu := { s.ffu with overrun := true } }).placeNotice .fetchOverrun partWide slot noCounters

/-- CONTEXT_CLOSED (R103, R104). -/
def State.noticeClosed (s : State) (k : Nat) : State := s.placeNotice .contextClosed k 0 noCounters

/-! ### The frame pool (R123, R124) -/

/-- R124: FPL examines its LOW flag after a change of the free count. -/
def State.examineLow (s : State) : State :=
  if !s.pool.low && decide (s.pool.free < 512) then
    ({ s with pool := { s.pool with low := true } }).placeNotice .poolLow partWide s.pool.free noCounters
  else if s.pool.low && decide (1024 ≤ s.pool.free) then
    ({ s with pool := { s.pool with low := false } }).placeNotice .poolRecovered partWide s.pool.free noCounters
  else s

/-- R123: an entry's blocks return to the pool. -/
def State.returnBlocks (s : State) (n : Nat) : State :=
  ({ s with pool := { s.pool with free := s.pool.free + n } }).examineLow

/-- R123: an insertion takes its blocks from the pool. -/
def State.takeBlocks (s : State) (n : Nat) : State :=
  ({ s with pool := { s.pool with free := s.pool.free - n } }).examineLow

/-! ### READY and EVENT (R164, R170) -/

/-- The unconsumed egress count (R159). -/
def State.egressCount (s : State) : Nat := (s.erw.producer + s.win.ne - s.erw.consumer) % s.win.ne

/-- R164's BURST latch after an examination. -/
def readyLatch (count threshold : Nat) (latch : Bool) : Bool :=
  if threshold ≤ count then true else if count = 0 then false else latch

/-- R164: ERW examines READY. -/
def State.examineReady (s : State) : State :=
  match s.part.readyMode with
  | .level =>
    { s with erw := { s.erw with ready := decide (s.part.state = .running) && decide (1 ≤ s.egressCount) } }
  | .burst =>
    let latch := readyLatch s.egressCount s.part.threshold s.erw.latch
    { s with erw := { s.erw with latch := latch, ready := decide (s.part.state = .running) && latch } }

/-- R170: NTW examines EVENT. -/
def State.examineEvent (s : State) : State :=
  { s with ntw := { s.ntw with
      event := decide (s.part.state = .running) && (decide (s.part.trigger ≤ s.noticeCount) || s.ntw.latch) } }

/-- READY and EVENT are deasserted whenever the part is IDLE (R164, R170, R176, R177). -/
def State.dropLines (s : State) : State :=
  { s with erw := { s.erw with ready := false }, ntw := { s.ntw with event := false } }

/-- R169: the condition under which the timeout latch is set after an advance. -/
def State.quietDue (s : State) : Bool :=
  !s.ntw.latch && (decide (s.part.quietLimit ≠ 0) && (decide (s.part.quietLimit * 8 ≤ s.ntw.timer) && decide (0 < s.noticeCount)))

end Sys2Proof.Machine
end

