-- ==== Sys2Proof/Machine/Playout.lean ====
section
/-! DEFINITION. Chapter 7.7: the playout queues, and the pool blocks their entries hold. -/
namespace Sys2Proof.Machine

/-- An entry's place among entries ordered by distance, nearest first (R125, R128). -/
def insertByDistance (expected : Byte) (e : PlayEntry) : List PlayEntry → List PlayEntry
  | [] => [e]
  | x :: xs =>
    if distance expected e.seq < distance expected x.seq then e :: x :: xs else x :: insertByDistance expected e xs

/-- R128: the entry's blocks are taken, it is inserted at its distance, and the rejected edge flag is cleared. -/
def State.insertEntry (s : State) (k : Nat) (e : PlayEntry) : State :=
  (s.takeBlocks e.blocks).modCtx k fun c =>
    { c with playout := insertByDistance (c.expected.getD e.seq) e c.playout, edges := { c.edges with rejected := false } }

/-- An entry that has left the queue returns its blocks and counts LATE (R100, R129). -/
def State.releaseLate (s : State) (k : Nat) (e : PlayEntry) : State :=
  (s.returnBlocks e.blocks).count k fun n => { n with late := satInc n.late }

/-- The entries of a context's queue whose distance from `expected` is at least `q` leave it, nearest first
(notes/assumptions/13.md), each counting LATE (R100, R129). -/
def State.releaseBeyond (s : State) (k : Nat) (expected : Byte) (q : Nat) : State :=
  let gone := (s.ctx k).playout.filter fun e => decide (q ≤ distance expected e.seq)
  let s := s.modCtx k fun c => { c with playout := c.playout.filter fun e => decide (distance expected e.seq < q) }
  gone.foldl (fun s e => s.releaseLate k e) s

/-- R129: the stream has moved ahead of the queue. -/
def State.catchUp (s : State) (k : Nat) (e : PlayEntry) : State :=
  let q := (s.ctx k).cfg.q
  let expected := e.seq - BitVec.ofNat 8 (q - 1)
  let s := s.modCtx k fun c => { c with expected := some expected }
  (s.releaseBeyond k expected q).insertEntry k e

/-- A frame offered to the playout queue (R126 to R129). -/
def State.offer (s : State) (k : Nat) (e : PlayEntry) : State :=
  let c := s.ctx k
  match c.expected with
  | none => (s.modCtx k fun c => { c with expected := some (e.seq - BitVec.ofNat 8 c.cfg.d) }).insertEntry k e
  | some x =>
    if 128 ≤ distance x e.seq ∨ (c.playout.any fun p => decide (p.seq = e.seq)) = true then
      s.count k fun n => { n with late := satInc n.late }
    else if distance x e.seq < c.cfg.q then s.insertEntry k e
    else s.catchUp k e

/-- The entry at distance 0 of a queue whose expected is `x` (R125). -/
def entryAtZero (c : Context) (x : Byte) : Option PlayEntry := c.playout.find? fun e => decide (e.seq = x)

/-- R130: the queue's answer to a decode job at its start, in the state after it. -/
def State.takePlayout (s : State) (k : Nat) : State :=
  match (s.ctx k).expected with
  | none => s
  | some x =>
    let gone := entryAtZero (s.ctx k) x
    let s := s.modCtx k fun c =>
      { c with playout := c.playout.filter (fun e => decide (e.seq ≠ x)), expected := some (x + 1) }
    match gone with
    | none => s
    | some e => s.returnBlocks e.blocks

/-- R130: what the queue hands to a decode job at its start. -/
def State.playoutAnswer (s : State) (k : Nat) : Option PlayEntry :=
  (s.ctx k).expected.bind fun x => entryAtZero (s.ctx k) x

end Sys2Proof.Machine
end

