-- ==== Sys2Proof/Machine/Engine.lean ====
section
/-! DEFINITION. Chapter 8: the job queue, the choice of a job, job starts, ends of work and completions; and the hand-off of
a frame to the egress ring writer (R160, R161). -/
namespace Sys2Proof.Machine

/-! ### The job queue (R132 to R134) -/

/-- A request adds one pending job (R132). -/
def State.requestJob (s : State) (k : Nat) (kind : JobKind) : State :=
  { s with engine := { s.engine with jobs := s.engine.jobs ++ [Job.mk k kind] } }

/-- The pending job of a context and kind leaves the queue (R132). -/
def State.withdrawJob (s : State) (k : Nat) (kind : JobKind) : State :=
  { s with engine := { s.engine with jobs := s.engine.jobs.filter (· != Job.mk k kind) } }

/-- A job of the context and kind is pending. -/
def State.isPending (s : State) (k : Nat) (kind : JobKind) : Bool := decide (Job.mk k kind ∈ s.engine.jobs)

/-- The context and kind of a running job. -/
def Running.job : Running → Job
  | .encode j => { ctx := j.ctx, kind := .encode }
  | .decode j => { ctx := j.ctx, kind := .decode }

/-- A job of the context and kind is running. -/
def State.isRunning (s : State) (k : Nat) (kind : JobKind) : Bool :=
  s.engine.running.any fun r => decide (r.job = Job.mk k kind)

/-- R134: eligible unless an encode job whose context already has an encode job running. -/
def State.eligible (s : State) (j : Job) : Bool := !(decide (j.kind = .encode) && s.isRunning j.ctx .encode)

/-- 160 − the context's position on the job's side (R133 key 2). -/
def State.slack (s : State) (j : Job) : Nat :=
  match j.kind with
  | .encode => 160 - s.inPosition (s.ctx j.ctx)
  | .decode => 160 - s.outPosition (s.ctx j.ctx)

/-- Job `a` comes before job `b` in R133's order. -/
def State.jobBefore (s : State) (a b : Job) : Bool :=
  if (s.ctx a.ctx).cfg.priority ≠ (s.ctx b.ctx).cfg.priority then decide ((s.ctx a.ctx).cfg.priority = .high)
  else if s.slack a ≠ s.slack b then decide (s.slack a < s.slack b)
  else if a.kind ≠ b.kind then decide (a.kind = .decode)
  else decide (a.ctx < b.ctx)

/-- The first of some jobs in R133's order. -/
def State.firstJob (s : State) : List Job → Option Job
  | [] => none
  | j :: js =>
    match s.firstJob js with
    | none => some j
    | some b => if s.jobBefore b j then some b else some j

/-- The job a free lane takes, if a lane is free and an eligible job is pending (R133, R134). -/
def State.chosenJob (s : State) : Option Job :=
  if s.engine.running.length < Config.lanes then s.firstJob (s.engine.jobs.filter s.eligible) else none

/-! ### Job starts -/

/-- A lane takes a job: it leaves the queue, the lane is busy and the running-job count rises (R131, R135, R139). -/
def State.occupyLane (s : State) (k : Nat) (r : Running) : State :=
  let s := s.withdrawJob k r.job.kind
  let s := { s with engine := { s.engine with running := s.engine.running ++ [r] } }
  s.modCtx k fun c => { c with runningJobs := c.runningJobs + 1 }

/-- The half that is not the filling half (R135). -/
def Context.fullHalf (c : Context) : Half := if c.fillingOne then c.half0 else c.half1

/-- The copies and decisions of an encode job at its start (R135). -/
def State.encodeCopies (s : State) (k : Nat) : EncodeJob :=
  let c := s.ctx k
  { ctx := k, codes := c.fullHalf.codes, seq := c.fullHalf.seq, talkSeen := c.fullHalf.talkSeen, inLevel := c.inDet.level,
    outLevel := c.outDet.level, outTalk := c.outDet.talk, law := c.cfg.law, uplink := c.cfg.uplink,
    downlink := c.cfg.downlink, dtx := c.cfg.dtx, hangover := c.cfg.hangover, echoShift := c.cfg.echoShift,
    margin := c.cfg.margin, tmplLen := c.cfg.tmplLen, tmpl := c.cfg.tmpl, enc := c.enc,
    mode := adapt c.dec.latest c.cfg.allowed, request := if s.pool.low then 1 else c.cfg.request, waiting := false }

/-- R135. -/
def State.startEncode (s : State) (k : Nat) : State := s.occupyLane k (.encode (s.encodeCopies k))

/-- What a decode job takes and copies at its start (R139). -/
def State.decodeCopies (s : State) (k : Nat) : DecodeJob :=
  { ctx := k, taken := s.playoutAnswer k, p := (s.ctx k).p, law := (s.ctx k).cfg.law, dec := (s.ctx k).dec }

/-- R139. -/
def State.startDecode (s : State) (k : Nat) : State := (s.takePlayout k).occupyLane k (.decode (s.decodeCopies k))

/-- The start of the chosen job (R134). -/
def State.startJob (s : State) (j : Job) : State :=
  match j.kind with
  | .encode => s.startEncode j.ctx
  | .decode => s.startDecode j.ctx

/-! ### Completions -/

/-- R104: at the completion that brings a CLOSING context's running-job count to 0. -/
def State.drainEnd (s : State) (k : Nat) : State :=
  let c := s.ctx k
  if c.state = .closing ∧ c.runningJobs = 0 then
    ((s.modCtx k fun c => { c with state := .closed }).ctxStatus k .done c.closeTag c.closeCode).noticeClosed k
  else s

/-- A running job's lane becomes free and the running-job count falls (R131, R138, R141). -/
def State.freeLane (s : State) (k : Nat) (kind : JobKind) : State :=
  let s := { s with engine := { s.engine with
    running := s.engine.running.filter fun r => decide (r.job ≠ Job.mk k kind) } }
  s.modCtx k fun c => { c with runningJobs := c.runningJobs - 1 }

/-- R138: the completion of an encode job. -/
def State.completeEncode (s : State) (k : Nat) : State :=
  let s := s.freeLane k .encode
  if (s.ctx k).state = .active then s.setEdges k fun e => { e with uplinkMissed := false } else s.drainEnd k

/-- The encode job of the context that has not reached its end of work. -/
def State.workingEncode (s : State) (k : Nat) : Option EncodeJob :=
  s.engine.running.findSome? fun
    | .encode j => if j.ctx = k ∧ j.waiting = false then some j else none
    | .decode _ => none

/-- The decode job of the context. -/
def State.runningDecode (s : State) (k : Nat) : Option DecodeJob :=
  s.engine.running.findSome? fun
    | .decode j => if j.ctx = k then some j else none
    | .encode _ => none

/-- The encode job of the context waits in its lane for its group (R138). -/
def State.markWaiting (s : State) (k : Nat) : State :=
  { s with engine := { s.engine with running := s.engine.running.map fun
      | .encode j => if j.ctx = k then .encode { j with waiting := true } else .encode j
      | .decode j => .decode j } }

/-! ### The hand-off to the egress ring writer (R160, R161) -/

/-- R160: the ring is full, the reserved slots counted. -/
def State.egressRingFull (s : State) : Bool := decide ((s.erw.producer + s.erw.waiting + 1) % s.win.ne = s.erw.consumer)

/-- The egress frame group of a frame for the next free slot (R160, R161). -/
def State.egressGroup (s : State) (j : EncodeJob) (f : Frame) : Group :=
  .egress j.ctx ((s.erw.producer + s.erw.waiting) % s.win.ne)
    (groupOrder (egressSlotBytes j.ctx s.clocks.frameNo (j.tmpl.take j.tmplLen) f))

/-- R160: the frame is dropped, or its slot reserved and its group requested. -/
def State.handOff (s : State) (j : EncodeJob) (f : Frame) : State :=
  if s.egressRingFull then
    ((s.count j.ctx fun n => { n with egressDropped := satInc n.egressDropped }).noticeEgressFull j.ctx f.seq.toNat).completeEncode
      j.ctx
  else
    let s := (s.requestGroup (s.egressGroup j f)).markWaiting j.ctx
    { s with erw := { s.erw with waiting := s.erw.waiting + 1 } }

/-! ### Ends of work -/

/-- R137: the encode job of the context ends its work. -/
def State.encodeEnd (s : State) (k : Nat) : State :=
  match s.workingEncode k with
  | none => s
  | some j =>
    if (s.ctx k).state = .active then
      let r := encodeWork j
      let s := s.modCtx k fun c => { c with enc := r.enc, counters := { c.counters with encoded := satInc c.counters.encoded } }
      match r.frame with
      | none => s.completeEncode k
      | some f => s.handOff j f
    else s.completeEncode k

/-- R141's writes for an ACTIVE context. -/
def Context.takeDecoded (r : DecodeResult) (c : Context) : Context :=
  { c with
    n := r.codes, dec := r.dec, outDet := c.outDet.stepAll c.cfg r.codes, nReady := true
    counters := if r.concealed then { c.counters with concealed := satInc c.counters.concealed } else c.counters }

/-- R141: the decode job of the context completes. -/
def State.decodeEnd (s : State) (k : Nat) : State :=
  match s.runningDecode k with
  | none => s
  | some j =>
    if (s.ctx k).state = .active then (s.modCtx k (Context.takeDecoded (decodeWork j))).freeLane k .decode
    else (s.freeLane k .decode).drainEnd k

end Sys2Proof.Machine
end

