-- ==== Sys2Proof/Machine/Queue.lean ====
section
/-! DEFINITION. Chapter 9.3 and the steps the part takes by itself at an event: the order of waiting groups (R152), the
timeout latch (R169) and the choice of jobs (R134). -/
namespace Sys2Proof.Machine

/-- A group's context is CLOSING, so that it leaves the order without entering the queue (R152). -/
def State.groupClosing (s : State) : Group → Bool
  | .egress k _ _ => decide ((s.ctx k).state = .closing)
  | .notice _ | .status _ | .indexReset _ => false

/-- The steps the part takes by itself, none of them at a command's bidding. -/
inductive DueStep where
  /-- GROUP_ADMISSION (R152). -/
  | admission
  /-- GROUP_DISCARD (R152, R162). -/
  | discard
  /-- QUIET_TIMEOUT (R169). -/
  | quiet
  /-- ENCODE_JOB_START or DECODE_JOB_START (R134). -/
  | start (j : Job)
  deriving DecidableEq, Repr

/-- The examination of the order of waiting groups (R152): what becomes of its head. -/
def State.dueGroup (s : State) : Option DueStep :=
  match s.pwq.waiting with
  | [] => none
  | g :: _ =>
    if s.groupClosing g then some .discard
    else if s.pwq.entries.length + g.size ≤ Config.pwqWords then some .admission
    else none

/-- The step that is due, if any: the order of waiting groups first, then the timeout latch, then the choice of a job
(R152, R169, R134; notes/assumptions/2.md). -/
def State.dueStep (s : State) : Option DueStep :=
  match s.dueGroup with
  | some d => some d
  | none => if s.quietDue then some .quiet else s.chosenJob.map .start

/-- What the requester of an admitted group does when it is told (R152, R162, R167). -/
def State.tellRequester (s : State) : Group → State
  | .egress k _ _ =>
    let s := { s with erw := { s.erw with producer := (s.erw.producer + 1) % s.win.ne, waiting := s.erw.waiting - 1 } }
    let s := s.count k fun n => { n with sent := satInc n.sent }
    let s := s.setEdges k fun e => { e with egressFull := false }
    (s.completeEncode k).examineReady
  | .notice _ =>
    ({ s with ntw := { s.ntw with producer := (s.ntw.producer + 1) % s.win.nn, waiting := s.ntw.waiting - 1, timer := 0 } }).examineEvent
  | .status _ => s
  | .indexReset _ => s

/-- R152: the group at the head is admitted whole. -/
def State.enterHead (s : State) : State :=
  match s.pwq.waiting with
  | [] => s
  | g :: rest =>
    ({ s with pwq := { entries := s.pwq.entries ++ s.groupWords g, waiting := rest } }).tellRequester g

/-- R162: a group standing behind a discarded one moves back by one slot. -/
def Group.moveBack (ne : Nat) : Group → Group
  | .egress k slot words => .egress k ((slot + ne - 1) % ne) words
  | .notice words => .notice words
  | .status word => .status word
  | .indexReset words => .indexReset words

/-- R162: the egress frame group at the head leaves without admission. -/
def State.discardHead (s : State) : State :=
  match s.pwq.waiting with
  | .egress k _ _ :: rest =>
    ({ s with pwq := { s.pwq with waiting := rest.map (Group.moveBack s.win.ne) },
              erw := { s.erw with waiting := s.erw.waiting - 1 } }).completeEncode k
  | _ => s

/-- R169: the timeout latch is set, and EVENT is examined (R170). -/
def State.setTimeout (s : State) : State := ({ s with ntw := { s.ntw with latch := true } }).examineEvent

/-- The due step, taken. -/
def State.takeDue (s : State) : DueStep → State
  | .admission => s.enterHead
  | .discard => s.discardHead
  | .quiet => s.setTimeout
  | .start j => s.startJob j

/-- Due steps in turn, at most `n` of them, until none is due. -/
def State.settleUpTo : Nat → State → State
  | 0, s => s
  | n + 1, s =>
    match s.dueStep with
    | none => s
    | some d => State.settleUpTo n (s.takeDue d)

/-- A bound on the due steps a state can have: a discard may request two groups, a job start one (notes/assumptions/22.md). -/
def State.dueBound (s : State) : Nat := 3 * s.pwq.waiting.length + 2 * s.engine.jobs.length + 1

/-- The part at the end of the event: no due step is left (R134: "either no lane is free or no eligible job is pending"). -/
def State.settle (s : State) : State := State.settleUpTo s.dueBound s

end Sys2Proof.Machine
end

