-- ==== Sys2Proof/Machine/Fetch.lean ====
section
/-! DEFINITION. Chapter 7.1 to 7.5: the fetch queue, the fetch buffer, the reads of a fetch and the disposal of a frame. -/
namespace Sys2Proof.Machine

/-! ### The fetch queue (R112 to R114, R121) -/

/-- R112: whenever the buffer is idle and the queue holds entries, the oldest becomes READING and its fetch begins. -/
def Ffu.promote (u : Ffu) : Ffu :=
  match u.buffer, u.queue with
  | none, e :: rest =>
    { u with queue := { e with state := .reading } :: rest, buffer := some { slot := e.slot, stale := false, phase := .header } }
  | _, _ => u

/-- R121: an event that leaves the queue empty clears the overrun edge flag. -/
def Ffu.clearIfEmpty (u : Ffu) : Ffu := if u.queue.isEmpty then { u with overrun := false } else u

/-- The queue holds a WAITING entry for the slot. -/
def Ffu.hasWaiting (u : Ffu) (slot : Nat) : Bool := u.queue.any fun e => decide (e = FetchEntry.mk slot .waiting)

/-- The queue holds the READING entry for the slot. -/
def Ffu.hasReading (u : Ffu) (slot : Nat) : Bool := u.queue.any fun e => decide (e = FetchEntry.mk slot .reading)

/-- The READING entry of the slot leaves the queue and its fetch becomes STALE (R113, R114, R117). -/
def Ffu.makeStale (u : Ffu) (slot : Nat) : Ffu :=
  { u with queue := u.queue.filter (fun e => decide (e ≠ FetchEntry.mk slot .reading)),
           buffer := u.buffer.map fun f => { f with stale := true } }

/-- The WAITING entry of the slot is removed; the others keep their order (R114). -/
def Ffu.dropWaiting (u : Ffu) (slot : Nat) : Ffu :=
  { u with queue := u.queue.filter fun e => decide (e ≠ FetchEntry.mk slot .waiting) }

/-- A WAITING entry for the slot at the tail (R113). -/
def Ffu.append (u : Ffu) (slot : Nat) : Ffu :=
  Ffu.promote { u with queue := u.queue ++ [FetchEntry.mk slot .waiting] }

/-- R113: a header-word event with the valid flag set. -/
def State.headerValid (s : State) (slot : Nat) : State :=
  if s.ffu.hasWaiting slot then s
  else if s.ffu.hasReading slot then { s with ffu := (s.ffu.makeStale slot).append slot }
  else if s.ffu.queue.length < Config.fetchEntries then { s with ffu := s.ffu.append slot }
  else s.noticeOverrun slot

/-- R114: a header-word event with the valid flag clear. -/
def State.headerInvalid (s : State) (slot : Nat) : State :=
  if s.ffu.hasWaiting slot then
    { s with ffu := (s.ffu.dropWaiting slot).clearIfEmpty }
  else if s.ffu.hasReading slot then { s with ffu := (s.ffu.makeStale slot).clearIfEmpty }
  else s

/-- R122: STOP and CLEAR end the work of the FFU. -/
def State.endFetches (s : State) : State := { s with ffu := { queue := [], buffer := none, overrun := false } }

/-- The buffer becomes idle at the completion of a fetch, whose entry leaves the queue unless the fetch is STALE
(R115 to R117). -/
def Ffu.finish (stale : Bool) (u : Ffu) : Ffu :=
  Ffu.promote (Ffu.clearIfEmpty { u with queue := if stale then u.queue else u.queue.tail, buffer := none })

/-! ### Disposal (R118 to R120) -/

/-- R118 step 3: the type of a frame that is not malformed. -/
def frameForm (length : Nat) (frame : List Byte) : Option FrameType :=
  if 3 ≤ length ∧ length ≤ 84 then
    match FrameType.ofCode (byte1Type (frame.getD 1 0)) with
    | some t => if length = t.bytes then some t else none
    | none => none
  else none

/-- R120: the refusal of a frame. -/
def State.reject (s : State) (k detail : Nat) : State :=
  (s.count k fun n => { n with rejected := satInc n.rejected }).noticeRejected k detail

/-- The context a stream tag maps to (R119). -/
def State.lookupTag (s : State) (tag : Nat) : Option Nat := (s.tags.find? fun p => decide (p.1 = tag)).map (·.2)

/-- R118. -/
def State.dispose (s : State) (tag length : Nat) (frame : List Byte) : State :=
  match s.lookupTag tag with
  | none => s
  | some k =>
    let s := s.count k fun n => { n with received := satInc n.received }
    match frameForm length frame with
    | none => s.reject k 1
    | some t => if s.pool.free < t.blocks then s.reject k 2 else s.offer k (readEntry t frame)

/-! ### The reads of a fetch (R115, R116) -/

/-- The address of word `i` of mobile ingress slot `slot` (R111). -/
def State.ingressWordAddr (s : State) (slot i : Nat) : Nat := s.win.mobInBase + 128 * slot + 4 * i

/-- W, the words that hold the header and a frame of `length` bytes (R116). -/
def fetchWords (length : Nat) : Nat := (4 + length + 3) / 4

/-- The word after the last of the body burst that starts at word `next` (R116). -/
def burstEnd (length next : Nat) : Nat := min (next / 8 * 8 + 8) (fetchWords length)

/-- The state with the buffer's fetch waiting for another read. -/
def State.fetchGoesOn (s : State) (f : Fetch) (phase : FetchPhase) : State :=
  { s with ffu := { s.ffu with buffer := some { f with phase := phase } } }

/-- The completion of a fetch (R115 to R118): a STALE fetch's bytes are discarded. -/
def State.fetchDone (s : State) (f : Fetch) : State := { s with ffu := s.ffu.finish f.stale }

/-- R115: what a granted header read shows. -/
def State.headerTaken (s : State) (f : Fetch) (bytes : List Byte) : State :=
  let length := (bytes.getD 0 0).toNat
  let tag := (bytes.getD 1 0).toNat + 256 * (bytes.getD 2 0).toNat
  if (bytes.getD 3 0).getLsbD 7 = false then s.fetchDone f
  else if 3 ≤ length ∧ length ≤ 84 then s.fetchGoesOn f (.body length tag 1 [])
  else if f.stale then s.fetchDone f
  else (s.fetchDone f).dispose tag length []

/-- R116: what a granted body burst brings. -/
def State.bodyTaken (s : State) (f : Fetch) (length tag next : Nat) (got : List Byte) : State :=
  if burstEnd length next < fetchWords length then s.fetchGoesOn f (.body length tag (burstEnd length next) got)
  else if f.stale then s.fetchDone f
  else (s.fetchDone f).dispose tag length (got.take length)

/-- A grant of the port to the FFU (R115, R116, R148, R154). -/
def State.fetchGrant (s : State) : State :=
  match s.ffu.buffer with
  | none => s
  | some f =>
    match f.phase with
    | .header =>
      let a := s.ingressWordAddr f.slot 0
      ((s.countFetchGrant).noteRead a 4).headerTaken f (s.readBytes a 4)
    | .body length tag next got =>
      let a := s.ingressWordAddr f.slot next
      let n := 4 * (burstEnd length next - next)
      ((s.countFetchGrant).noteRead a n).bodyTaken f length tag next (got ++ s.readBytes a n)

/-- The buffer waits for its header read. -/
def State.headerClaimed (s : State) : Bool :=
  match s.ffu.buffer with
  | some { phase := .header, .. } => true
  | _ => false

/-- The buffer waits for a body read. -/
def State.bodyClaimed (s : State) : Bool :=
  match s.ffu.buffer with
  | some { phase := .body _ _ _ _, .. } => true
  | _ => false

end Sys2Proof.Machine
end

