-- ==== Sys2Proof/Machine/Port.lean ====
section
/-! DEFINITION. The memory port (chapter 9.1, 9.2, 9.4): the arbiter's choice, the drain, and the grants that come before a
claimant's own. -/
namespace Sys2Proof.Machine

/-- The claimants of the memory port (R147). -/
inductive Claimant where
  | master
  | pwq
  | ffu
  deriving DecidableEq, Repr

/-- A status or a START index reset group (R149, R150). -/
def Group.isStatusOrIndex : Group → Bool
  | .status _ | .indexReset _ => true
  | .egress _ _ _ | .notice _ => false

/-- How many status and START index reset groups wait (R149). -/
def State.statusWaiting (s : State) : Nat := (s.pwq.waiting.filter Group.isStatusOrIndex).length

/-- R149: the claimant granted when the port becomes free; `master` says whether a master access waits. -/
def State.portChoice (s : State) (master : Bool) : Option Claimant :=
  if 32 ≤ s.pwq.entries.length ∧ 4 ≤ s.mpa.drainCount then some .pwq
  else if s.ffu.buffer.isSome ∧ 8 ≤ s.mpa.fetchCount then some .ffu
  else if master ∧ s.statusWaiting < 15 then some .master
  else if s.pwq.entries ≠ [] then some .pwq
  else if s.ffu.buffer.isSome then some .ffu
  else none

/-- R153: a grant of the port to the PWQ; the oldest word is written to memory and leaves the queue. -/
def State.drainGrant (s : State) : State :=
  match s.pwq.entries with
  | [] => s
  | w :: rest =>
    let s := (s.countDrainGrant).storeCells (laneCells w.addr w.lanes)
    { s with pwq := { s.pwq with entries := rest } }

/-- A grant to one of the part's own claimants. -/
def State.grantOwn (s : State) : Claimant → State
  | .pwq => s.drainGrant
  | .ffu => s.fetchGrant
  | .master => s

/-- The grants that R149 gives before the next grant to `who`, each followed by the steps it makes due; at most `n`. -/
def State.awaitUpTo (who : Claimant) : Nat → State → State
  | 0, s => s.settle
  | n + 1, s =>
    let s := s.settle
    match s.portChoice (decide (who = .master)) with
    | none => s
    | some c => if c = who then s else State.awaitUpTo who n (s.grantOwn c)

/-- A bound on those grants (notes/assumptions/22.md). -/
def State.awaitBound (s : State) : Nat :=
  s.pwq.entries.length + 32 * s.pwq.waiting.length + 16 * (s.engine.jobs.length + s.engine.running.length) + 64

/-- The part at the moment the port is granted to `who`, which waits (R149; notes/assumptions/3.md). -/
def State.await (s : State) (who : Claimant) : State := State.awaitUpTo who s.awaitBound s

end Sys2Proof.Machine
end

