-- ==== Sys2Proof/Machine/Clocks.lean ====
section
/-! DEFINITION. Chapter 4.2 to 4.7: the sample clocks, boundaries, the ingress tap and the egress output pair. -/
namespace Sys2Proof.Machine

/-- The steps of an advance to ring frame `f` (R61). -/
def advanceSteps (frames current f : Nat) : Nat := (f + frames - current) % frames

/-- An advance of `k` steps from clock position `p` passes position `b` (R64). -/
def passes (p k b : Nat) : Bool := decide ((b + 160 - (p + 1) % 160) % 160 < k)

/-- The context numbers, in ascending order, whose record satisfies a test. -/
def State.ctxsWhere (s : State) (f : Context → Bool) : List Nat :=
  (s.ctxs.zipIdx.filter fun c => f c.1).map (·.2)

/-! ### The ingress side (R61, R66, R67) -/

/-- R67 steps 2 and 3: the halves change places; the full half takes the sequence counter. -/
def Context.flipHalves (c : Context) : Context :=
  if c.fillingOne then
    { c with half1 := { c.half1 with seq := c.seqCounter }, half0 := { c.half0 with talkSeen := false }, fillingOne := false,
             seqCounter := c.seqCounter + 1 }
  else
    { c with half0 := { c.half0 with seq := c.seqCounter }, half1 := { c.half1 with talkSeen := false }, fillingOne := true,
             seqCounter := c.seqCounter + 1 }

/-- R67 step 1: a pending encode job is withdrawn, counted and notified. -/
def State.missUplink (s : State) (k : Nat) : State :=
  if s.isPending k .encode then
    ((s.withdrawJob k .encode).count k fun n => { n with uplinkMissed := satInc n.uplinkMissed }).noticeUplinkMissed k
      (s.ctx k).fullHalf.seq.toNat
  else s

/-- R67. -/
def State.flip (s : State) (k : Nat) : State := ((s.missUplink k).modCtx k Context.flipHalves).requestJob k .encode

/-- The contexts that flip when an advance of `steps` starts at clock position `p` (R64). -/
def State.flipping (s : State) (p steps : Nat) : List Nat :=
  s.ctxsWhere fun c => decide (c.state = .active) && c.cfg.uplink && passes p steps (boundary c.cfg.inSlot)

/-- R61: the ingress clock moved to ring frame `f`; the quiet timer counts the steps (R169). -/
def State.moveIngress (s : State) (f steps : Nat) : State :=
  { s with
    clocks := { s.clocks with
      inPos := (s.clocks.inPos + steps) % 160, inFrame := f
      frameNo := if passes s.clocks.inPos steps 0 then s.clocks.frameNo + 1 else s.clocks.frameNo }
    ntw := { s.ntw with timer := min 65535 (s.ntw.timer + steps) } }

/-- R61, R64: the ingress clock advance of an access to ring frame `f`, with its flips. -/
def State.advanceIngress (s : State) (f : Nat) : State :=
  if f = s.clocks.inFrame then s
  else
    let steps := advanceSteps s.win.frames s.clocks.inFrame f
    (s.flipping s.clocks.inPos steps).foldl State.flip (s.moveIngress f steps)

/-- R66: one context of a tap set stores a byte at index `i`, steps its ingress detector and may set the talk-seen flag. -/
def Context.tap (i : Nat) (b : Byte) (c : Context) : Context :=
  let det := c.inDet.step c.cfg (magnitudeIndex c.cfg.law b)
  let store (h : Half) : Half :=
    { h with codes := h.codes.set i b, talkSeen := h.talkSeen || decide (det.talk = .talking) }
  if c.fillingOne then { c with half1 := store c.half1, inDet := det } else { c with half0 := store c.half0, inDet := det }

/-- R66: the byte of timeslot `t` is tapped into the contexts of its tap set. -/
def State.tapByte (s : State) (t : Nat) (b : Byte) : State :=
  (s.tapSet t).foldl (fun s k => s.modCtx k fun c => c.tap (s.inPosition c) b) s

/-- R61, R66: the effect of a granted write into the ingress PCM ring. -/
def State.ingressWrite (s : State) (addr : Nat) (cells : List (Nat × Byte)) : State :=
  let s := s.advanceIngress ((addr - s.win.ingressBase) / s.win.slots)
  cells.foldl (fun s c => s.tapByte ((c.1 - s.win.ingressBase) % s.win.slots) c.2) s

/-! ### The egress side (R62, R70 to R72) -/

/-- R70 steps 1 to 4. -/
def Context.swap (c : Context) : Context :=
  { c with p := c.n, n := c.p, nReady := false, replay := 0, edges := { c.edges with slip := false } }

/-- R71: a slip. -/
def State.slip (s : State) (k : Nat) : State :=
  let r := min ((s.ctx k).replay + 1) 4
  (s.modCtx k fun c => { c with replay := r, counters := { c.counters with slips := satInc c.counters.slips } }).noticeSlip k r

/-- R70, R71: an egress boundary of a context. -/
def State.egressBoundary (s : State) (k : Nat) : State :=
  if (s.ctx k).nReady then (s.modCtx k Context.swap).requestJob k .decode else s.slip k

/-- The contexts that swap or slip when an advance of `steps` starts at clock position `p` (R64). -/
def State.swapping (s : State) (p steps : Nat) : List Nat :=
  s.ctxsWhere fun c => decide (c.state = .active) && c.cfg.downlink && passes p steps (boundary c.cfg.outSlot)

/-- R62: the egress clock moved to ring frame `f`. -/
def State.moveEgress (s : State) (f steps : Nat) : State :=
  { s with clocks := { s.clocks with outPos := (s.clocks.outPos + steps) % 160, outFrame := f } }

/-- R62, R64: the egress clock advance of an access to ring frame `f`, with its swaps and slips. -/
def State.advanceEgress (s : State) (f : Nat) : State :=
  if f = s.clocks.outFrame then s
  else
    let steps := advanceSteps s.win.frames s.clocks.outFrame f
    (s.swapping s.clocks.outPos steps).foldl State.egressBoundary (s.moveEgress f steps)

/-- R72: the byte a head supplies at its egress position. -/
def State.suppliedByte (s : State) (c : Context) : Byte :=
  if 4 ≤ c.replay then silence c.cfg.law
  else attenuate c.cfg.law c.replay (c.p.getD (s.outPosition c) (silence c.cfg.law))

/-- R72: one returned byte, `b` as forwarding leaves it, of timeslot `t`. -/
def State.substitute (s : State) (t : Nat) (b : Byte) : Byte :=
  match s.claimList t with
  | [] => b
  | k :: _ => s.suppliedByte (s.ctx k)

/-- R72: the bytes a granted read of the egress PCM ring returns, after the advance. -/
def State.egressBytes (s : State) (addr n : Nat) : List Byte :=
  (List.range n).map fun i => s.substitute ((addr + i - s.win.egressBase) % s.win.slots) (s.readByte (addr + i))

end Sys2Proof.Machine
end

