-- ==== Sys2Proof/Machine/Contexts.lean ====
section
/-! DEFINITION. Chapter 6: the context commands. Each is given the context number and the command tag read with it; the
command code is the one its rule names. -/
namespace Sys2Proof.Machine

/-! ### Command codes (R92) -/

abbrev codeOpen : Byte := 1
abbrev codeModify : Byte := 2
abbrev codeHandover : Byte := 3
abbrev codeClose : Byte := 4
abbrev codeReport : Byte := 5

/-! ### OPEN (R96 to R98) -/

/-- R96 check 3. -/
def State.openBadParam (s : State) (k : Nat) : Bool :=
  let c := readCaptured s.shadow k
  decide (1 < rawLaw s.shadow k) || (!c.uplink && !c.downlink) || (c.uplink && decide (s.win.slots ≤ c.inSlot)) ||
    (c.downlink && decide (s.win.slots ≤ c.outSlot)) || (c.downlink && decide (c.tag = 0)) ||
    (c.uplink && decide (c.allowed = 0))

/-- R82: the timeslot map refuses the join. -/
def State.mapFull (s : State) (c : Captured) : Bool :=
  (c.uplink && decide (Config.mapCapacity ≤ (s.tapSet c.inSlot).length)) ||
    (c.downlink && decide (Config.mapCapacity ≤ (s.claimList c.outSlot).length))

/-- R96: the first check that fails. -/
def State.openRefusal (s : State) (k : Nat) : Option Result :=
  let c := readCaptured s.shadow k
  if s.part.state = .idle then some .notRunning
  else if (s.ctx k).state = .closing then some .busy
  else if (s.ctx k).state = .active then some .badState
  else if s.openBadParam k then some .badParam
  else if c.downlink ∧ (s.lookupTag c.tag).isSome then some .tagInUse
  else if s.mapFull c then some .timeslotFull
  else none

/-- An accumulator half at OPEN (R65). -/
def Half.opened (law : Law) : Half := { codes := silenceCodes law, talkSeen := false, seq := 0 }

/-- The record of context `k` at OPEN, with its captured configuration (R98 steps 1, 2 and 6; the OPEN column of R110). -/
def Context.opened (k : Nat) (cfg : Captured) (c : Context) : Context :=
  { c with
    cfg := cfg, state := .active, runningJobs := 0, half0 := .opened cfg.law, half1 := .opened cfg.law,
    fillingOne := false, seqCounter := 0, p := silenceCodes cfg.law, n := silenceCodes cfg.law, nReady := false, replay := 0,
    inDet := .opened, outDet := .opened, enc := { recon := 0, xPrev := 0, dtx := .silent 0 }
    dec := { recon := 0, loss := 0, state := .initial, comfort := 0, gen := 0x4A5D#16 ^^^ BitVec.ofNat 16 k, latest := 3 }
    playout := [], expected := none, counters := .zero, edges := .clear }

/-- R98 steps 1 to 5: the effects of an OPEN that passes every check, before its status word. -/
def State.openEffect (s : State) (k : Nat) : State :=
  let cfg := readCaptured s.shadow k
  let s := (s.modCtx k (Context.opened k cfg)).joinMap k cfg
  if cfg.downlink then ({ s with tags := s.tags ++ [(cfg.tag, k)] }).requestJob k .decode else s

/-- OPEN (R96 to R98). -/
def State.commandOpen (s : State) (k : Nat) (tag : Byte) : State :=
  match s.openRefusal k with
  | some r => s.ctxStatus k r tag codeOpen
  | none => (s.openEffect k).ctxStatus k .done tag codeOpen

/-! ### MODIFY (R99, R100) -/

/-- R99: the first check that fails. -/
def State.modifyRefusal (s : State) (k : Nat) : Option Result :=
  let c := s.ctx k
  if c.state = .closed then some .badState
  else if c.state = .closing then some .busy
  else if c.cfg.uplink ∧ (readAdjustable s.shadow k c.cfg).allowed = 0 then some .badParam
  else none

/-- R99, R100: the adjustable fields are replaced; entries beyond a lowered Q are released. -/
def State.modifyEffect (s : State) (k : Nat) : State :=
  let old := (s.ctx k).cfg
  let new := readAdjustable s.shadow k old
  let expected := (s.ctx k).expected
  let s := s.modCtx k fun c => { c with cfg := new }
  match expected with
  | none => s
  | some x => if new.q < old.q then s.releaseBeyond k x new.q else s

/-- MODIFY (R99). -/
def State.commandModify (s : State) (k : Nat) (tag : Byte) : State :=
  match s.modifyRefusal k with
  | some r => s.ctxStatus k r tag codeModify
  | none => (s.modifyEffect k).ctxStatus k .done tag codeModify

/-! ### HANDOVER (R84, R102) -/

/-- R102: the first check that fails. -/
def State.handoverRefusal (s : State) (k : Nat) : Option Result :=
  let c := s.ctx k
  if c.state = .closed then some .badState
  else if c.state = .closing then some .busy
  else if c.cfg.downlink = false then some .badState
  else none

/-- R84. -/
def State.handoverEffect (s : State) (k : Nat) : State :=
  let t := (s.ctx k).cfg.outSlot
  s.setClaims t (toHead k (s.claimList t))

/-- HANDOVER (R102). -/
def State.commandHandover (s : State) (k : Nat) (tag : Byte) : State :=
  match s.handoverRefusal k with
  | some r => s.ctxStatus k r tag codeHandover
  | none => (s.handoverEffect k).ctxStatus k .done tag codeHandover

/-! ### CLOSE (R103) -/

/-- R103: the first check that fails. -/
def State.closeRefusal (s : State) (k : Nat) : Option Result :=
  match (s.ctx k).state with
  | .closed => some .badState
  | .closing => some .busy
  | .active => none

/-- R103 step 5: the playout queue is emptied, none counted LATE, expected kept. -/
def State.releaseAll (s : State) (k : Nat) : State :=
  let gone := (s.ctx k).playout
  gone.foldl (fun s e => s.returnBlocks e.blocks) (s.modCtx k fun c => { c with playout := [] })

/-- R103 steps 1 to 5, and the state of steps 6 and 7. -/
def State.closeEffect (s : State) (k : Nat) (tag : Byte) : State :=
  let s := s.modCtx k fun c => { c with state := .closing, closeTag := tag, closeCode := codeClose }
  let s := s.leaveMap k (s.ctx k).cfg
  let s := { s with tags := s.tags.filter fun p => p.2 != k }
  let s := ((s.withdrawJob k .encode).withdrawJob k .decode).releaseAll k
  s.modCtx k fun c => if c.runningJobs = 0 then { c with state := .closed } else c

/-- CLOSE (R103 steps 6 and 7, R95). -/
def State.commandClose (s : State) (k : Nat) (tag : Byte) : State :=
  match s.closeRefusal k with
  | some r => s.ctxStatus k r tag codeClose
  | none =>
    let s := s.closeEffect k tag
    if (s.ctx k).state = .closed then (s.ctxStatus k .done tag codeClose).noticeClosed k
    else s.ctxStatus k .inProgress tag codeClose

/-! ### REPORT (R106) and codes that name no command (R92) -/

/-- REPORT (R106, R95). -/
def State.commandReport (s : State) (k : Nat) (tag : Byte) : State :=
  if (s.ctx k).state = .closed then s.ctxStatus k .badState tag codeReport
  else
    ((s.placeNotice .report k 0 (s.ctx k).counters.list).count k fun _ => Counters.zero).ctxStatus k .done tag codeReport

/-- A code of 6..255 (R92). -/
def State.commandBad (s : State) (k : Nat) (tag code : Byte) : State := s.ctxStatus k .badCommand tag code

/-- The command of a context command word (R92). -/
def State.contextCommand (s : State) (k : Nat) (code tag : Byte) : State :=
  if code = 0 then s
  else if code = codeOpen then s.commandOpen k tag
  else if code = codeModify then s.commandModify k tag
  else if code = codeHandover then s.commandHandover k tag
  else if code = codeClose then s.commandClose k tag
  else if code = codeReport then s.commandReport k tag
  else s.commandBad k tag code

end Sys2Proof.Machine
end

