-- ==== Sys2Proof/Machine/Control.lean ====
section
/-! DEFINITION. Chapter 11: the control commands START, STOP and CLEAR, and the two resets. -/
namespace Sys2Proof.Machine

/-! ### Command codes (R173) -/

abbrev codeStart : Byte := 1
abbrev codeStop : Byte := 2
abbrev codeClear : Byte := 3

/-! ### START (R174, R175) -/

/-- R174 check 2. -/
def Windows.rangesOk (w : Windows) : Bool :=
  decide (w.slots % 32 = 0) && decide (32 ≤ w.slots) && decide (w.slots ≤ 512) && decide (8 ≤ w.frames) && decide (w.frames ≤ 64) &&
    decide (2 ≤ w.ni) && decide (w.ni ≤ 4096) && decide (2 ≤ w.ne) && decide (w.ne ≤ 4096) && decide (2 ≤ w.nn) &&
    decide (w.nn ≤ 4096)

/-- R174 check 3. -/
def Windows.aligned (w : Windows) : Bool :=
  decide (w.ingressBase % 32 = 0) && decide (w.egressBase % 32 = 0) && decide (w.noticeBase % 32 = 0) &&
    decide (w.mobInBase % 128 = 0) && decide (w.mobOutBase % 128 = 0)

/-- Base and size of the five rings (R174 check 4). -/
def Windows.rings (w : Windows) : List (Nat × Nat) :=
  [(w.ingressBase, w.frames * w.slots), (w.egressBase, w.frames * w.slots), (w.mobInBase, w.ni * 128),
   (w.mobOutBase, w.ne * 128), (w.noticeBase, w.nn * 32)]

/-- Two areas share no byte. -/
def apart (a b : Nat × Nat) : Bool := decide (a.1 + a.2 ≤ b.1) || decide (b.1 + b.2 ≤ a.1)

/-- Every two areas of a list share no byte. -/
def allApart : List (Nat × Nat) → Bool
  | [] => true
  | a :: rest => rest.all (apart a) && allApart rest

/-- R174 checks 2 to 5. -/
def State.layoutOk (s : State) (w : Windows) : Bool :=
  w.rangesOk && w.aligned && w.rings.all (fun r => decide (r.1 + r.2 ≤ s.memBytes)) &&
    allApart ((s.controlBase, 32768) :: w.rings)

/-- R174: the first check that fails. -/
def State.startRefusal (s : State) : Option Result :=
  if s.part.state = .running then some .badState
  else if s.layoutOk (readWindows s.shadow) then none
  else some .badLayout

/-- R175 steps 1 and 2, and 6's part state. -/
def State.startedPart (s : State) : Part :=
  let w := readWindows s.shadow
  { s.part with
    state := .running, windows := some w, trigger := max 1 (field8 s.shadow 0x2C), quietLimit := field8 s.shadow 0x2D
    readyMode := if fieldBit s.shadow 0x2E 0 then .burst else .level
    threshold := min (w.ne - 1) (max 1 (field8 s.shadow 0x2F)) }

/-- R175 step 5: the index reset group. -/
def State.indexResetGroup (s : State) : Group :=
  .indexReset [s.indexWord 0x30 0, s.indexWord 0x34 0, s.indexWord 0x38 0, s.indexWord 0x3C 0]

/-- R175 steps 1 to 5, and 6 but for the status group. DEDUCED: the index reset group joins the tail, as R150, R151 and
R157 say of every request. R167's words of notice groups still waiting, that they "drain after START's index reset group", are
read as R157's "still drain after it": they go on draining once START has requested it (notes/assumptions/29.md). -/
def State.startEffect (s : State) : State :=
  let s := { s with
    part := s.startedPart
    clocks := { inPos := 0, inFrame := 0, frameNo := 0, outPos := 0, outFrame := 0 }
    erw := { s.erw with producer := 0, consumer := 0, latch := false }
    ntw := { s.ntw with producer := 0, consumer := 0, lost := false, timer := 0, latch := false } }
  ((s.requestGroup s.indexResetGroup).examineReady).examineEvent

/-- START (R174, R175). -/
def State.commandStart (s : State) (tag : Byte) : State :=
  match s.startRefusal with
  | some r => s.ctlStatus r tag codeStart
  | none => s.startEffect.ctlStatus .done tag codeStart

/-! ### STOP (R176) -/

/-- R176: the first check that fails. -/
def State.stopRefusal (s : State) : Option Result :=
  if s.part.state = .idle then some .badState
  else if s.ctxs.all (fun c => decide (c.state = .closed)) then none
  else some .contextsOpen

/-- The part becomes IDLE, and the lines are deasserted (R176, R177). -/
def State.becomeIdle (s : State) : State := ({ s with part := { s.part with state := .idle } }).dropLines

/-- STOP (R176, R122). -/
def State.commandStop (s : State) (tag : Byte) : State :=
  match s.stopRefusal with
  | some r => s.ctlStatus r tag codeStop
  | none => (s.endFetches.becomeIdle).ctlStatus .done tag codeStop

/-! ### CLEAR (R177) -/

/-- R109 for one context. -/
def Context.atClear (c : Context) : Context :=
  { c with state := .closed, runningJobs := 0, playout := [], counters := .zero, edges := .clear }

/-- A group that CLEAR keeps in the order of waiting groups (R157). -/
def Group.survivesClear : Group → Bool
  | .egress _ _ _ => false
  | .notice _ | .status _ | .indexReset _ => true

/-- R177 but for the status group. -/
def State.clearEffect (s : State) : State :=
  let s := s.endFetches
  let s := { s with
    engine := { jobs := [], running := [] }
    pwq := { s.pwq with waiting := s.pwq.waiting.filter Group.survivesClear }
    erw := { s.erw with waiting := 0 }
    pool := { free := Config.poolBlocks, low := false }
    tsm := { taps := List.replicate Config.timeslots [], claims := List.replicate Config.timeslots [] }
    tags := []
    ctxs := s.ctxs.map Context.atClear }
  s.becomeIdle

/-- CLEAR (R177). -/
def State.commandClear (s : State) (tag : Byte) : State := s.clearEffect.ctlStatus .done tag codeClear

/-- A control code of 4..255 (R173). -/
def State.commandBadControl (s : State) (tag code : Byte) : State := s.ctlStatus .badCommand tag code

/-- The command of the control block's command word (R173). -/
def State.controlCommand (s : State) (code tag : Byte) : State :=
  if code = 0 then s
  else if code = codeStart then s.commandStart tag
  else if code = codeStop then s.commandStop tag
  else if code = codeClear then s.commandClear tag
  else s.commandBadControl tag code

/-! ### Resets (R172) -/

/-- Power-on clear: the shadow becomes zero; frame memory is not written (R172, R73). The queue of commands, the
fitted SDRAM and the model's own count of open reads are not the part's (notes/assumptions/17.md). -/
def State.powerOnClear (s : State) (cbBase : BitVec 13) (memSize : BitVec 3) : State :=
  { State.afterReset cbBase memSize [] s.mem with openReads := s.openReads, fitted := s.fitted, pending := s.pending }

/-- Pin reset: as power-on clear, but the shadow is kept (R172, R73). -/
def State.pinReset (s : State) (cbBase : BitVec 13) (memSize : BitVec 3) : State :=
  { State.afterReset cbBase memSize s.shadow s.mem with openReads := s.openReads, fitted := s.fitted, pending := s.pending }

end Sys2Proof.Machine
end

