-- ==== Sys2Proof/Machine/Access.lean ====
section
/-! DEFINITION. Chapter 4.1 and 4.8 to 4.10: the classification of a granted master access by its address, and its effects. -/
namespace Sys2Proof.Machine

/-- Where a granted access falls (R58). -/
inductive Area where
  | control
  | ingressPcm
  | egressPcm
  | mobileIngress
  | plain
  deriving DecidableEq, Repr

/-- An address lies in the area of `size` bytes at `base`. -/
def inArea (base size addr : Nat) : Bool := decide (base ≤ addr) && decide (addr < base + size)

/-- The area of an access by its first address (R57, R58); in IDLE only the control area is looked at (R77). The mobile egress
ring, the notice ring and the memory outside every window are passed alike. -/
def State.areaOf (s : State) (addr : Nat) : Area :=
  if inArea s.controlBase 32768 addr then .control
  else if s.part.state = .idle then .plain
  else if inArea s.win.ingressBase (s.win.frames * s.win.slots) addr then .ingressPcm
  else if inArea s.win.egressBase (s.win.frames * s.win.slots) addr then .egressPcm
  else if inArea s.win.mobInBase (s.win.ni * 128) addr then .mobileIngress
  else .plain

/-! ### The control-area snoop (R73 to R75) -/

/-- The command words of the control area (R74). -/
inductive CommandWord where
  | control
  | context (k : Nat)
  deriving DecidableEq, Repr

/-- The command word whose byte 0 lies at a control-area offset (R74). -/
def commandWordAt (off : Nat) : Option CommandWord :=
  if off = 0 then some .control
  else if 0x400 ≤ off ∧ off < 0x6400 ∧ (off - 0x400) % 0x40 = 0 then some (.context ((off - 0x400) / 0x40))
  else none

/-- Control-area offsets and bytes of the enabled bytes of a write. -/
def State.controlCells (s : State) (cells : List (Nat × Byte)) : List (Nat × Byte) :=
  cells.map fun c => (c.1 - s.controlBase, c.2)

/-- The command word a write includes byte 0 of; there is at most one in a burst (R74). -/
def includedCommand (offs : List (Nat × Byte)) : Option CommandWord := offs.findSome? fun c => commandWordAt c.1

/-- R73: the enabled bytes are copied into the shadow. -/
def State.snoop (s : State) (offs : List (Nat × Byte)) : State := { s with shadow := Memory.putAll s.shadow offs }

/-- R74: the command of a command word, with its code and tag read from the shadow. -/
def State.runCommand (s : State) : CommandWord → State
  | .control => s.controlCommand (Memory.get s.shadow 0) (Memory.get s.shadow 1)
  | .context k => s.contextCommand k (Memory.get s.shadow (descriptor k)) (Memory.get s.shadow (descriptor k + 1))

/-- A write includes an enabled byte of the word at a control-area offset (R75). -/
def touchesWord (offs : List (Nat × Byte)) (off : Nat) : Bool := offs.any fun c => decide (off ≤ c.1) && decide (c.1 < off + 4)

/-- R163: an egress consumer write. -/
def State.egressConsumer (s : State) : State :=
  ({ s with erw := { s.erw with consumer := field16 s.shadow 0x34 % s.win.ne } }).examineReady

/-- R168, R169: a notice consumer write. -/
def State.noticeConsumer (s : State) : State :=
  ({ s with ntw := { s.ntw with consumer := field16 s.shadow 0x3C % s.win.nn, timer := 0, latch := false } }).examineEvent

/-- R75: the consumer words a write touches are handed to their writers, in RUNNING. -/
def State.consumerWrites (s : State) (offs : List (Nat × Byte)) : State :=
  if s.part.state = .running then
    let s := if touchesWord offs 0x34 then s.egressConsumer else s
    if touchesWord offs 0x3C then s.noticeConsumer else s
  else s

/-- R73 to R75: the effect of a granted write into the control area. -/
def State.controlWrite (s : State) (cells : List (Nat × Byte)) : State :=
  let offs := s.controlCells cells
  let s := s.snoop offs
  match includedCommand offs with
  | some w => s.runCommand w
  | none => s.consumerWrites offs

/-! ### Header-word events (R76) -/

/-- R76: a write that includes byte 3 of a slot's word 0 is handed to the FFU with its valid flag. -/
def State.mobileIngress (s : State) (addr : Nat) (cells : List (Nat × Byte)) : State :=
  let slot := (addr - s.win.mobInBase) / 128
  match cellAt cells (s.ingressWordAddr slot 0 + 3) with
  | none => s
  | some b => if b.getLsbD 7 then s.headerValid slot else s.headerInvalid slot

/-! ### Grants (R57, R58, R148, R155) -/

/-- What a granted write does beyond memory and the queue, by its area (R58). -/
def State.writeEffect (s : State) (addr : Nat) (cells : List (Nat × Byte)) : State :=
  match s.areaOf addr with
  | .control => s.controlWrite cells
  | .ingressPcm => s.ingressWrite addr cells
  | .mobileIngress => s.mobileIngress addr cells
  | .egressPcm => s
  | .plain => s

/-- The part of a granted write that every area shares: the grant counters, supersession and memory (R148, R155, R58). -/
def State.writeThrough (s : State) (cells : List (Nat × Byte)) : State :=
  ((s.countMasterGrant).supersede cells).storeCells cells

/-- The grant of a master write. R155 has an examination of the order of waiting groups follow each entry that supersession
deletes, and gives it no place among the other effects of the same grant. DESIGN CHOICE: a command, a consumer write, a tap or
a header-word event of the write comes first, and the examination is the due step after the grant, so that a waiting group for
which the deletion makes room is admitted after them (R152, R162; notes/assumptions/28.md). -/
def State.grantWrite (s : State) (b : WriteBurst) : State :=
  (s.writeThrough (burstCells b)).writeEffect b.addr.toNat (burstCells b)

/-- The read data of a granted access (R154, R72). -/
def State.returned (s : State) (data : List Byte) (addr n : Nat) : State := { s.noteRead addr n with readData := data }

/-- The grant of a master read. -/
def State.grantRead (s : State) (b : ReadBurst) : State :=
  let a := b.addr.toNat
  let n := 4 * b.count
  let s := s.countMasterGrant
  if s.areaOf a = .egressPcm then
    let s := s.advanceEgress ((a - s.win.egressBase) / s.win.slots)
    s.returned (s.egressBytes a n) a n
  else s.returned (s.readBytes a n) a n

/-- A master write waits for its grant (R149) and takes effect at it (R57). What it does is decided by its address and the
part state, whatever row of the table it is sent under (notes/assumptions/5.md). -/
def masterWriteAccess (b : WriteBurst) (s : State) : Host.Outcome State Fault Refusal :=
  if b.wf then .next ((s.await .master).grantWrite b) else .fault .notABurst

/-- A master read waits for its grant (R149) and takes effect at it (R57). -/
def masterReadAccess (b : ReadBurst) (s : State) : Host.Outcome State Fault Refusal :=
  if b.wf then .next ((s.await .master).grantRead b) else .fault .notABurst

end Sys2Proof.Machine
end

