-- ==== Sys2Proof/Machine/AccessCommands.lean ====
section
/-! DEFINITION. The meanings of the rows that are plain master accesses. Each is the one operation of a granted access: the
part examines only the address (00_scope.md 1, R58). -/
namespace Sys2Proof.Machine

/-- INGRESS_PCM_WRITE (R66): the ingress clock advances and the enabled bytes are tapped. -/
def execIngressPcmWrite (b : WriteBurst) (s : State) : Host.Outcome State Fault Refusal := masterWriteAccess b s

/-- EGRESS_PCM_READ (R72): the egress clock advances and the bytes of served timeslots are substituted. -/
def execEgressPcmRead (b : ReadBurst) (s : State) : Host.Outcome State Fault Refusal := masterReadAccess b s

/-- MOBILE_INGRESS_WRITE (R76): a write that includes byte 3 of a slot's header word hands an event to the FFU. -/
def execMobileIngressWrite (b : WriteBurst) (s : State) : Host.Outcome State Fault Refusal := masterWriteAccess b s

/-- CONTROL_AREA_WRITE (R73): the enabled bytes are copied into the shadow. -/
def execControlAreaWrite (b : WriteBurst) (s : State) : Host.Outcome State Fault Refusal := masterWriteAccess b s

/-- EGRESS_CONSUMER_WRITE (R75, R163): ERW takes the consumer word and READY is examined. -/
def execEgressConsumerWrite (b : WriteBurst) (s : State) : Host.Outcome State Fault Refusal := masterWriteAccess b s

/-- NOTICE_CONSUMER_WRITE (R75, R168): NTW takes the consumer word, the quiet timer restarts and EVENT is examined. -/
def execNoticeConsumerWrite (b : WriteBurst) (s : State) : Host.Outcome State Fault Refusal := masterWriteAccess b s

/-- MASTER_WRITE (R155): the write reaches memory and takes its bytes out of the queued part writes. -/
def execMasterWrite (b : WriteBurst) (s : State) : Host.Outcome State Fault Refusal := masterWriteAccess b s

/-- MASTER_READ (R154): memory's bytes are returned, overlaid by the queued part writes. -/
def execMasterRead (b : ReadBurst) (s : State) : Host.Outcome State Fault Refusal := masterReadAccess b s

end Sys2Proof.Machine
end

