-- ==== Sys2Proof/Machine/ContextCommands.lean ====
section
/-! DEFINITION. The meanings of the context-command rows: a control-area write that includes byte 0 of a descriptor's command
word (R74). The command is read from the shadow as the write leaves it, so the row's effect is that of the granted write. -/
namespace Sys2Proof.Machine

/-- OPEN (R96 to R98): the write reaches the shadow, and `State.commandOpen` is executed against it. -/
def execCtxOpen (b : WriteBurst) (s : State) : Host.Outcome State Fault Refusal := masterWriteAccess b s

/-- MODIFY (R99, R100): the write reaches the shadow, and `State.commandModify` is executed against it. -/
def execCtxModify (b : WriteBurst) (s : State) : Host.Outcome State Fault Refusal := masterWriteAccess b s

/-- HANDOVER (R102, R84): the write reaches the shadow, and `State.commandHandover` is executed against it. -/
def execCtxHandover (b : WriteBurst) (s : State) : Host.Outcome State Fault Refusal := masterWriteAccess b s

/-- CLOSE (R103): the write reaches the shadow, and `State.commandClose` is executed against it. -/
def execCtxClose (b : WriteBurst) (s : State) : Host.Outcome State Fault Refusal := masterWriteAccess b s

/-- REPORT (R106): the write reaches the shadow, and `State.commandReport` is executed against it. -/
def execCtxReport (b : WriteBurst) (s : State) : Host.Outcome State Fault Refusal := masterWriteAccess b s

/-- BAD_COMMAND (R92): the write reaches the shadow, and `State.commandBad` is executed against it. -/
def execCtxBadCommand (b : WriteBurst) (s : State) : Host.Outcome State Fault Refusal := masterWriteAccess b s

end Sys2Proof.Machine
end

