-- ==== Sys2Proof/Machine/ControlCommands.lean ====
section
/-! DEFINITION. The meanings of the control-command rows, a write that includes byte 0 of the control block's command word
(R173), and of the two resets (R172). -/
namespace Sys2Proof.Machine

/-- POWER_ON_CLEAR (R172). -/
def execPowerOnClear (cbBase : BitVec 13) (memSize : BitVec 3) (s : State) : Host.Outcome State Fault Refusal :=
  .next (s.powerOnClear cbBase memSize)

/-- PIN_RESET (R172). -/
def execPinReset (cbBase : BitVec 13) (memSize : BitVec 3) (s : State) : Host.Outcome State Fault Refusal :=
  .next (s.pinReset cbBase memSize)

/-- START (R174, R175): the write reaches the shadow, and `State.commandStart` is executed against it. -/
def execCtlStart (b : WriteBurst) (s : State) : Host.Outcome State Fault Refusal := masterWriteAccess b s

/-- STOP (R176): the write reaches the shadow, and `State.commandStop` is executed against it. -/
def execCtlStop (b : WriteBurst) (s : State) : Host.Outcome State Fault Refusal := masterWriteAccess b s

/-- CLEAR (R177): the write reaches the shadow, and `State.commandClear` is executed against it. -/
def execCtlClear (b : WriteBurst) (s : State) : Host.Outcome State Fault Refusal := masterWriteAccess b s

/-- BAD_CONTROL_COMMAND (R173): the write reaches the shadow, and `State.commandBadControl` is executed against it. -/
def execCtlBadCommand (b : WriteBurst) (s : State) : Host.Outcome State Fault Refusal := masterWriteAccess b s

end Sys2Proof.Machine
end

