-- ==== Sys2Proof/Machine/PartCommands.lean ====
section
/-! DEFINITION. The meanings of the rows that are the part's own steps: grants to the PWQ and the FFU, job starts and ends,
the order of waiting groups and the timeout latch. A row whose event cannot come about in a state leaves the part as it is,
but for steps already due (notes/assumptions/4.md). -/
namespace Sys2Proof.Machine

/-- DRAIN (R153): a grant of the port to the PWQ, which claims it whenever the queue is not empty (R147). -/
def execDrain (s : State) : Host.Outcome State Fault Refusal :=
  let s := s.settle
  if s.pwq.entries = [] then .next s else .next (s.await .pwq).drainGrant

/-- FETCH_HEADER_READ (R115): a grant of the port to the FFU, which waits for a header read. -/
def execFetchHeaderRead (s : State) : Host.Outcome State Fault Refusal :=
  let s := s.settle
  if s.headerClaimed then .next (s.await .ffu).fetchGrant else .next s

/-- FETCH_BODY_READ (R116): a grant of the port to the FFU, which waits for a body read. -/
def execFetchBodyRead (s : State) : Host.Outcome State Fault Refusal :=
  let s := s.settle
  if s.bodyClaimed then .next (s.await .ffu).fetchGrant else .next s

/-- ENCODE_JOB_START (R134, R135): the chosen job, when it is an encode job. -/
def execEncodeJobStart (s : State) : Host.Outcome State Fault Refusal :=
  match s.dueStep with
  | some (.start { ctx := k, kind := .encode }) => .next (s.startEncode k)
  | _ => .next s

/-- DECODE_JOB_START (R134, R139): the chosen job, when it is a decode job. -/
def execDecodeJobStart (s : State) : Host.Outcome State Fault Refusal :=
  match s.dueStep with
  | some (.start { ctx := k, kind := .decode }) => .next (s.startDecode k)
  | _ => .next s

/-- ENCODE_END_OF_WORK (R137) of the running encode job of context `k`. -/
def execEncodeEndOfWork (k : Nat) (s : State) : Host.Outcome State Fault Refusal := .next (s.settle.encodeEnd k)

/-- DECODE_JOB_COMPLETION (R141) of the running decode job of context `k`. -/
def execDecodeJobCompletion (k : Nat) (s : State) : Host.Outcome State Fault Refusal := .next (s.settle.decodeEnd k)

/-- GROUP_ADMISSION (R152). -/
def execGroupAdmission (s : State) : Host.Outcome State Fault Refusal :=
  if s.dueStep = some .admission then .next s.enterHead else .next s

/-- GROUP_DISCARD (R152, R162). -/
def execGroupDiscard (s : State) : Host.Outcome State Fault Refusal :=
  if s.dueStep = some .discard then .next s.discardHead else .next s

/-- QUIET_TIMEOUT (R169). -/
def execQuietTimeout (s : State) : Host.Outcome State Fault Refusal :=
  if s.dueStep = some .quiet then .next s.setTimeout else .next s

/-- The part with no command waiting: the steps already due come about (R134, R152, R169); nothing else moves, since the part
has no free-running time base (00_scope.md 4.2; notes/assumptions/7.md). -/
def idleStep (s : State) : Host.Outcome State Fault Refusal := .next s.settle

end Sys2Proof.Machine
end

