-- ==== Sys2Proof/Machine/Dispatch.lean ====
section
/-! DEFINITION. One arm per command: its effect on everything but the queue of commands. -/
namespace Sys2Proof.Machine

def exec (i : Instr) (s : State) : Host.Outcome State Fault Refusal :=
  match i with
  | .powerOnClear cbBase memSize => Sys2Proof.Machine.execPowerOnClear cbBase memSize s
  | .pinReset cbBase memSize => Sys2Proof.Machine.execPinReset cbBase memSize s
  | .ingressPcmWrite b => Sys2Proof.Machine.execIngressPcmWrite b s
  | .egressPcmRead b => Sys2Proof.Machine.execEgressPcmRead b s
  | .mobileIngressWrite b => Sys2Proof.Machine.execMobileIngressWrite b s
  | .controlAreaWrite b => Sys2Proof.Machine.execControlAreaWrite b s
  | .egressConsumerWrite b => Sys2Proof.Machine.execEgressConsumerWrite b s
  | .noticeConsumerWrite b => Sys2Proof.Machine.execNoticeConsumerWrite b s
  | .masterWrite b => Sys2Proof.Machine.execMasterWrite b s
  | .masterRead b => Sys2Proof.Machine.execMasterRead b s
  | .ctxOpen b => Sys2Proof.Machine.execCtxOpen b s
  | .ctxModify b => Sys2Proof.Machine.execCtxModify b s
  | .ctxHandover b => Sys2Proof.Machine.execCtxHandover b s
  | .ctxClose b => Sys2Proof.Machine.execCtxClose b s
  | .ctxReport b => Sys2Proof.Machine.execCtxReport b s
  | .ctxBadCommand b => Sys2Proof.Machine.execCtxBadCommand b s
  | .ctlStart b => Sys2Proof.Machine.execCtlStart b s
  | .ctlStop b => Sys2Proof.Machine.execCtlStop b s
  | .ctlClear b => Sys2Proof.Machine.execCtlClear b s
  | .ctlBadCommand b => Sys2Proof.Machine.execCtlBadCommand b s
  | .drain => Sys2Proof.Machine.execDrain s
  | .fetchHeaderRead => Sys2Proof.Machine.execFetchHeaderRead s
  | .fetchBodyRead => Sys2Proof.Machine.execFetchBodyRead s
  | .encodeJobStart => Sys2Proof.Machine.execEncodeJobStart s
  | .decodeJobStart => Sys2Proof.Machine.execDecodeJobStart s
  | .encodeEndOfWork k => Sys2Proof.Machine.execEncodeEndOfWork k s
  | .decodeJobCompletion k => Sys2Proof.Machine.execDecodeJobCompletion k s
  | .groupAdmission => Sys2Proof.Machine.execGroupAdmission s
  | .groupDiscard => Sys2Proof.Machine.execGroupDiscard s
  | .quietTimeout => Sys2Proof.Machine.execQuietTimeout s

end Sys2Proof.Machine
end

