-- ==== Sys2Proof/Safety.lean ====
section
/-! DEFINITION. The terms the statements use: when an event may come about, what a control-area write leaves before its
command, and the laws the manual says hold at every moment. -/
namespace Sys2Proof.Machine

/-! ### When an event may come about (R134, R149, R152) -/

/-- Nothing is left of the event before: no group can leave the order, no timeout is due, no free lane finds a job. -/
abbrev State.settled (s : State) : Prop := s.dueStep = none

/-- R152: the examination stops: no group waits, or the head waits for space and is not of a CLOSING context. -/
def State.orderRests (s : State) : Prop :=
  ∀ g rest, s.pwq.waiting = g :: rest →
    64 < s.pwq.entries.length + g.size ∧ ∀ k slot ws, g = .egress k slot ws → (s.ctx k).state ≠ .closing

/-- R169: the timeout latch is clear and is to be set. -/
abbrev State.timeoutMet (s : State) : Prop :=
  s.ntw.latch = false ∧ s.part.quietLimit ≠ 0 ∧ s.part.quietLimit * 8 ≤ s.ntw.timer ∧
    0 < (s.ntw.producer + s.win.nn - s.ntw.consumer) % s.win.nn

/-- The port is free and R149 grants it to the oldest waiting master access. -/
abbrev State.masterTurn (s : State) : Prop := s.dueStep = none ∧ s.portChoice true = some .master

/-- The port is free and R149 grants it to the PWQ, no master access waiting. -/
abbrev State.queueTurn (s : State) : Prop := s.dueStep = none ∧ s.portChoice false = some .pwq

/-- The port is free and R149 grants it to the FFU, no master access waiting. -/
abbrev State.fetchTurn (s : State) : Prop := s.dueStep = none ∧ s.portChoice false = some .ffu

/-- Both arbiter counters after a master grant (R148). -/
def Mpa.afterMaster (m : Mpa) : Mpa := { drainCount := min 255 (m.drainCount + 1), fetchCount := min 255 (m.fetchCount + 1) }

/-! ### Control-area writes (R73, R74, R155) -/

/-- The part once a master write into the control area has reached memory and the shadow, before any command. -/
def State.written (s : State) (b : WriteBurst) : State :=
  (s.writeThrough (burstCells b)).snoop (s.controlCells (burstCells b))

/-- Control-area offset of a command word (12.2). -/
def CommandWord.offset : CommandWord → Nat
  | .control => 0
  | .context k => descriptor k

/-- The port is granted to a master write that includes byte 0 of command word `w`, and the shadow it leaves holds the
command code and tag given (R74). -/
abbrev CommandGrant (s : State) (b : WriteBurst) (w : CommandWord) (code tag : Byte) : Prop :=
  b.wf = true ∧ s.masterTurn ∧ s.areaOf b.addr.toNat = .control ∧
    includedCommand (s.controlCells (burstCells b)) = some w ∧
    Memory.get (s.written b).shadow w.offset = code ∧ Memory.get (s.written b).shadow (w.offset + 1) = tag

/-- A status group at the tail of the order of waiting groups (R94, R173). -/
def State.withStatus (s : State) (off : Nat) (r : Result) (tag code state : Byte) : State :=
  { s with pwq := { s.pwq with waiting := s.pwq.waiting ++
      [.status { addr := s.controlBase + off, lanes := fullWord r.code tag code state }] } }

/-! ### The frame pool's LOW flag (R124) -/

/-- R124: `t` is left by a change of `s`'s free count to `free`: POOL_LOW is requested and the flag set where it was clear and
the count is below 512, POOL_RECOVERED requested and the flag cleared where it was set and the count is 1024 or more; else the
flag keeps and nothing is requested. -/
def State.poolBecomes (s t : State) (free : Nat) : Prop :=
  let low := s.placeNotice .poolLow 0xFFFF free (List.replicate 9 0)
  let recovered := s.placeNotice .poolRecovered 0xFFFF free (List.replicate 9 0)
  t.pool.free = free ∧
    (s.pool.low = false → free < 512 → t.pool.low = true ∧ t.ntw = low.ntw ∧ t.pwq = low.pwq) ∧
    (s.pool.low = false → 512 ≤ free → t.pool.low = false ∧ t.ntw = s.ntw ∧ t.pwq = s.pwq) ∧
    (s.pool.low = true → 1024 ≤ free → t.pool.low = false ∧ t.ntw = recovered.ntw ∧ t.pwq = recovered.pwq) ∧
    (s.pool.low = true → free < 1024 → t.pool.low = true ∧ t.ntw = s.ntw ∧ t.pwq = s.pwq)

/-- R124: `t` is left by changes of `s`'s free count to each count of a list in turn, LOW being examined after each. -/
def State.poolPasses (s t : State) : List Nat → Prop
  | [] => t = s
  | free :: rest =>
    ∃ u, u = { s with pool := u.pool, ntw := u.ntw, pwq := u.pwq } ∧ s.poolBecomes u free ∧ u.poolPasses t rest

/-- The free counts of a pool of `free` blocks as entries return their blocks one after another (R123). -/
def countsAfter (free : Nat) (released : List PlayEntry) : List Nat :=
  (List.range released.length).map fun i => free + ((released.take (i + 1)).map (·.blocks)).sum

/-! ### The body of a speech frame (R17, 12.3) -/

/-- Step index `j` of a speech body: two to a byte, the first in bits 7..4. -/
def stepField (body : List Byte) (j : Nat) : Nat :=
  if j % 2 = 0 then (body.getD (j / 2) 0).toNat / 16 else (body.getD (j / 2) 0).toNat % 16

/-- Residual code `i` of a speech body of `b`-bit codes: bit `n` of the stream is bit 7 − n mod 8 of byte 2 + n div 8, a code is
its bits i·b to i·b + b − 1, most significant first, in two's complement. -/
def codeField (b : Nat) (body : List Byte) (i : Nat) : Int :=
  let bit (n : Nat) := (body.getD (2 + n / 8) 0).getLsbD (7 - n % 8)
  let u := (List.range b).foldl (fun v j => 2 * v + (bit (i * b + j)).toNat) 0
  if u < 2 ^ (b - 1) then u else u - 2 ^ b

/-! ### Companding intervals (R5, R8, R10) -/

/-- The magnitudes compressed to segment `e`, step `m`: the least. -/
def intervalLow : Law → Nat → Nat → Nat
  | .seg13, e, m => if e = 0 then 16 * m else (16 + m) * 2 ^ (e + 3)
  | .seg15, e, m => (16 + m) * 2 ^ (e + 3) - 132

/-- The magnitudes compressed to segment `e`, step `m`: the greatest. -/
def intervalHigh : Law → Nat → Nat → Nat
  | .seg13, e, m => if e = 0 then 16 * m + 15 else (17 + m) * 2 ^ (e + 3) - 1
  | .seg15, e, m => (17 + m) * 2 ^ (e + 3) - 133

/-- The largest magnitude compressed as it is (step 1 of R5 and of R8). -/
def largestMagnitude : Law → Nat
  | .seg13 => 32767
  | .seg15 => 32635

/-- The expansion of segment `e`, step `m`, without its sign (R4, R7). -/
def reconstruction : Law → Nat → Nat → Nat
  | .seg13, e, m => if e = 0 then 16 * m + 8 else (2 * m + 33) * 2 ^ (e + 2)
  | .seg15, e, m => (2 * m + 33) * 2 ^ (e + 2) - 132

/-- A linear sample of R1. -/
abbrev Linear (x : Int) : Prop := -32768 ≤ x ∧ x ≤ 32767

/-! ### Laws of single blocks -/

/-- R150: the queue never holds more than 64 words. -/
abbrev State.queueLaw (s : State) : Prop := s.pwq.entries.length ≤ 64

/-- R131: at most 4 jobs are running. -/
abbrev State.laneLaw (s : State) : Prop := s.engine.running.length ≤ 4

/-- Frame memory and the shadow are in canonical form. -/
abbrev State.memoryLaw (s : State) : Prop := Memory.wf s.mem = true ∧ Memory.wf s.shadow = true

/-- R107, R69: no counter is above 65535 and no replay level above 4. -/
abbrev State.counterLaw (s : State) : Prop :=
  ∀ c ∈ s.ctxs, c.replay ≤ 4 ∧ ∀ n ∈ c.counters.list, n ≤ 65535

/-- R39, R44: S and N of a detector lie in 0..8323072. -/
abbrev Detector.bounded (d : Detector) : Prop := d.level ≤ detectorTop ∧ d.floor ≤ detectorTop

/-- R44: the bounds hold for every detector of every context. -/
abbrev State.detectorLaw (s : State) : Prop := ∀ c ∈ s.ctxs, c.inDet.bounded ∧ c.outDet.bounded

/-- R89's ranges of the captured configuration that hold whatever the context state is; a reset's zeros lie in them. -/
abbrev Captured.inRange (c : Captured) : Prop :=
  c.inSlot ≤ 65535 ∧ c.outSlot ≤ 65535 ∧ c.tag ≤ 65535 ∧ c.request ≤ 3 ∧ c.hangover ≤ 15 ∧ c.tOn ≤ 255 ∧ c.h ≤ c.tOn ∧
    c.decay ≤ 3 ∧ c.echoShift ≤ 3 ∧ c.margin ≤ 255 ∧ c.q ≤ 8 ∧ c.d ≤ 7 ∧ c.tmplLen ≤ 8

/-- R21's ranges of the decoder fields, those of a reset among them. -/
abbrev DecFields.inRange (d : DecFields) : Prop := Linear d.recon ∧ d.loss ≤ 4 ∧ d.comfort ≤ 47 ∧ d.latest ≤ 3

/-- What R21 gives the generator and the latest request received from OPEN on. -/
abbrev DecFields.seeded (d : DecFields) : Prop := d.gen ≠ 0 ∧ 1 ≤ d.latest

/-- R51's ranges of the DTX state. -/
def DtxState.inRange : DtxState → Prop
  | .speech => True
  | .hangover c => c ≤ 15
  | .silent n => n ≤ 7

/-- R21's and R51's ranges of the encoder fields. -/
abbrev EncFields.inRange (e : EncFields) : Prop := Linear e.recon ∧ Linear e.xPrev ∧ e.dtx.inRange

/-- What a running job copied lies in range. -/
def Running.inRange : Running → Prop
  | .encode j => j.enc.inRange ∧ j.hangover ≤ 15
  | .decode j => j.dec.inRange ∧ j.dec.seeded ∧ ∀ e ∈ j.taken, e.request ≤ 3

/-- R1, R21, R51, R89: configuration, coder and DTX state in range, in every context and in every running job; a generator that
is not 0 and a request of 1..3 in every context that is not CLOSED; a playout entry's request is 0..3 (R125). A pending job,
whose start copies them, is of an ACTIVE context (R91). -/
def State.coderLaw (s : State) : Prop :=
  s.ctxs.length = 384 ∧
    (∀ c ∈ s.ctxs, c.cfg.inRange ∧ c.enc.inRange ∧ c.dec.inRange ∧ (c.state ≠ .closed → c.dec.seeded) ∧
      ∀ e ∈ c.playout, e.request ≤ 3) ∧
    (∀ r ∈ s.engine.running, r.inRange) ∧ ∀ j ∈ s.engine.jobs, (s.ctx j.ctx).state = .active

/-- The ranges of the clocks, grant counters, quiet timer and ring indices (R60, R148, R159, R167, R169). -/
abbrev State.rangeLaw (s : State) : Prop :=
  s.clocks.inPos < 160 ∧ s.clocks.outPos < 160 ∧ s.mpa.drainCount ≤ 255 ∧ s.mpa.fetchCount ≤ 255 ∧ s.ntw.timer ≤ 65535 ∧
    (s.part.state = .running →
      s.win.rangesOk = true ∧ s.clocks.inFrame < s.win.frames ∧ s.clocks.outFrame < s.win.frames ∧
        s.erw.producer < s.win.ne ∧ s.erw.consumer < s.win.ne ∧ s.ntw.producer < s.win.nn ∧ s.ntw.consumer < s.win.nn)

/-- R170: EVENT; R164: READY in both modes; both are deasserted in IDLE. -/
abbrev State.lineLaw (s : State) : Prop :=
  (s.ntw.event = true ↔ s.part.state = .running ∧ (s.part.trigger ≤ s.noticeCount ∨ s.ntw.latch = true)) ∧
    (s.part.readyMode = .level → (s.erw.ready = true ↔ s.part.state = .running ∧ 1 ≤ s.egressCount)) ∧
    (s.part.readyMode = .burst → (s.erw.ready = true ↔ s.part.state = .running ∧ s.erw.latch = true))

/-- R112 and R121: at most 16 entries, no slot twice, the oldest alone READING and then the one the buffer serves, no entry
left waiting for an idle buffer; the overrun edge flag is clear while the queue is empty. -/
def State.fetchLaw (s : State) : Prop :=
  s.ffu.queue.length ≤ 16 ∧ (s.ffu.queue.map (·.slot)).Nodup ∧
    (match s.ffu.buffer with
      | none => s.ffu.queue = []
      | some f =>
        if f.stale then ∀ e ∈ s.ffu.queue, e.state = .waiting
        else s.ffu.queue.head? = some { slot := f.slot, state := .reading } ∧ ∀ e ∈ s.ffu.queue.tail, e.state = .waiting) ∧
    (s.ffu.queue = [] → s.ffu.overrun = false)

/-! ### Laws across blocks -/

/-- R79: the timeslot map. -/
def State.mapLaw (s : State) : Prop :=
  s.ctxs.length = 384 ∧ s.tsm.taps.length = 512 ∧ s.tsm.claims.length = 512 ∧
    (s.part.state = .running → s.win.slots ≤ 512) ∧
    (∀ t < 512, (s.tapSet t).length ≤ 3 ∧ (s.tapSet t).Nodup ∧ (s.claimList t).length ≤ 3 ∧ (s.claimList t).Nodup ∧
      (∀ k ∈ s.tapSet t, k < 384) ∧ (∀ k ∈ s.claimList t, k < 384)) ∧
    (∀ k < 384, (s.ctx k).state = .active →
      ((s.ctx k).cfg.uplink = true → (s.ctx k).cfg.inSlot < 512) ∧
        ((s.ctx k).cfg.downlink = true → (s.ctx k).cfg.outSlot < 512)) ∧
    (∀ k < 384, ∀ t < 512,
      (k ∈ s.tapSet t ↔ (s.ctx k).state = .active ∧ (s.ctx k).cfg.uplink = true ∧ (s.ctx k).cfg.inSlot = t) ∧
        (k ∈ s.claimList t ↔ (s.ctx k).state = .active ∧ (s.ctx k).cfg.downlink = true ∧ (s.ctx k).cfg.outSlot = t))

/-- R119: the tag map holds exactly one entry for each ACTIVE downlink context, its captured tag, and no tag twice. -/
def State.tagLaw (s : State) : Prop :=
  s.ctxs.length = 384 ∧ (s.tags.map (·.1)).Nodup ∧
    (∀ p ∈ s.tags, 1 ≤ p.1 ∧ p.1 ≤ 65535 ∧ p.2 < 384) ∧
    (∀ k < 384, ∀ tag, (tag, k) ∈ s.tags ↔
      (s.ctx k).state = .active ∧ (s.ctx k).cfg.downlink = true ∧ (s.ctx k).cfg.tag = tag)

/-- The pool blocks the playout entries of a context hold. -/
def Context.blocksHeld (c : Context) : Nat := (c.playout.map (·.blocks)).sum

/-- The tag map leads to ACTIVE contexts alone (a part of R119). -/
abbrev State.tagsActive (s : State) : Prop :=
  s.ctxs.length = 384 ∧ ∀ p ∈ s.tags, p.2 < 384 ∧ (s.ctx p.2).state = .active

/-- R123: the free count plus the blocks held by all playout entries of all contexts is 4096; a context that is not ACTIVE
holds none (R91). -/
abbrev State.poolLaw (s : State) : Prop :=
  s.tagsActive ∧ (∀ c ∈ s.ctxs, c.state ≠ .active → c.playout = []) ∧
    s.pool.free + (s.ctxs.map Context.blocksHeld).sum = 4096

/-- R124: LOW is set below 512 and clear from 1024; between the two it is either. -/
abbrev State.lowLaw (s : State) : Prop :=
  (s.pool.low = false → 512 ≤ s.pool.free) ∧ (s.pool.low = true → s.pool.free < 1024)

/-- R125's law of one queue of capacity `q`. -/
def playoutOrdered (q : Nat) (expected : Option Byte) (queue : List PlayEntry) : Prop :=
  match expected with
  | none => queue = []
  | some x =>
    queue.Pairwise (fun a b => distance x a.seq < distance x b.seq) ∧ ∀ e ∈ queue, distance x e.seq < q

/-- R125: every queue is ordered by distance, its sequence numbers are distinct and its distances lie in 0..Q−1, so that it
holds at most Q entries; Q is 2..8 and D is 0..Q−1 in every ACTIVE context (R89). -/
def State.playoutLaw (s : State) : Prop :=
  s.tagsActive ∧
    (∀ c ∈ s.ctxs, c.state = .active → 2 ≤ c.cfg.q ∧ c.cfg.q ≤ 8 ∧ c.cfg.d < c.cfg.q) ∧
    (∀ c ∈ s.ctxs, playoutOrdered c.cfg.q c.expected c.playout)

/-- The pending jobs of a context and kind. -/
def State.pendingCount (s : State) (k : Nat) (kind : JobKind) : Nat := s.engine.jobs.count { ctx := k, kind := kind }

/-- The running jobs of a context and kind. -/
def State.runningCount (s : State) (k : Nat) (kind : JobKind) : Nat :=
  s.engine.running.countP fun r => decide (r.job = Job.mk k kind)

/-- A running encode job of context `k` that waits for its group. -/
def Running.waitsFor (k : Nat) : Running → Bool
  | .encode j => decide (j.ctx = k) && j.waiting
  | .decode _ => false

/-- An egress frame group. -/
def Group.isEgress : Group → Bool
  | .egress _ _ _ => true
  | .notice _ | .status _ | .indexReset _ => false

/-- An egress frame group of context `k`. -/
def Group.egressOf (k : Nat) : Group → Bool
  | .egress c _ _ => decide (c = k)
  | .notice _ | .status _ | .indexReset _ => false

/-- The laws of the jobs of one context (R69, R90, R91, R132, R134, R138). -/
def State.contextJobs (s : State) (k : Nat) : Prop :=
  (s.ctx k).runningJobs = s.runningCount k .encode + s.runningCount k .decode ∧
    s.runningCount k .encode ≤ 1 ∧ s.runningCount k .decode ≤ 1 ∧ s.pendingCount k .encode ≤ 1 ∧ s.pendingCount k .decode ≤ 1 ∧
    s.pwq.waiting.countP (Group.egressOf k) = s.engine.running.countP (Running.waitsFor k) ∧
    (match (s.ctx k).state with
      | .active =>
        ((s.ctx k).cfg.downlink = true →
          s.pendingCount k .decode + s.runningCount k .decode + (s.ctx k).nReady.toNat = 1) ∧
        ((s.ctx k).cfg.downlink = false → s.pendingCount k .decode = 0 ∧ s.runningCount k .decode = 0)
      | .closing => s.pendingCount k .encode = 0 ∧ s.pendingCount k .decode = 0 ∧ 1 ≤ (s.ctx k).runningJobs
      | .closed => s.pendingCount k .encode = 0 ∧ s.pendingCount k .decode = 0 ∧ (s.ctx k).runningJobs = 0)

/-- The job laws of every context; no job and no egress frame group belongs to a number that is no context. -/
def State.jobLaw (s : State) : Prop :=
  s.ctxs.length = 384 ∧ (∀ k < 384, s.contextJobs k) ∧ (∀ j ∈ s.engine.jobs, j.ctx < 384) ∧
    (∀ r ∈ s.engine.running, r.job.ctx < 384) ∧
    (∀ g ∈ s.pwq.waiting, ∀ k, g.egressOf k = true → k < 384)

/-- The slots of the egress frame groups that wait, oldest first. -/
def State.egressSlots (s : State) : List Nat :=
  s.pwq.waiting.filterMap fun
    | .egress _ slot _ => some slot
    | .notice _ | .status _ | .indexReset _ => none

/-- R159 and R162: w counts ERW's waiting groups, and the i-th of them writes slot (producer + i) mod Ne; in IDLE every
context is CLOSED. -/
def State.slotLaw (s : State) : Prop :=
  (s.part.state = .idle → ∀ c ∈ s.ctxs, c.state = .closed) ∧
    (s.part.state = .running → 2 ≤ s.win.ne) ∧
    s.erw.waiting = s.egressSlots.length ∧
    s.egressSlots = (List.range s.egressSlots.length).map fun i => (s.erw.producer + i) % s.win.ne

/-- R151: every waiting group has at most 26 words. -/
abbrev State.groupsSmall (s : State) : Prop := ∀ g ∈ s.pwq.waiting, g.size ≤ 26

/-- A running encode job copied the 160 codes of a half and at most 8 template bytes (R65, R89, R135). -/
def Running.sized : Running → Prop
  | .encode j => j.codes.length = 160 ∧ j.tmpl.length ≤ 8
  | .decode _ => True

/-- R65, R89, R151: halves hold 160 codes and templates at most 8 bytes, in every context and running encode job; every
waiting group has at most 26 words. -/
def State.sizeLaw (s : State) : Prop :=
  (∀ c ∈ s.ctxs, c.half0.codes.length = 160 ∧ c.half1.codes.length = 160 ∧ c.cfg.tmpl.length ≤ 8) ∧
    (∀ r ∈ s.engine.running, r.sized) ∧ s.groupsSmall

end Sys2Proof.Machine
end

