-- ==== Sys2Proof/Certificates/Slice0/Obligations.lean ====
section
/-! DEFINITION. The statements for the provers. -/
open Sys2Proof Sys2Proof.Machine

/-! ### The machine as a whole -/

/-- A step takes the command at the front of the queue and executes it with the queue's rest. -/
def Obligations.StepRunsFront : Prop :=
  ∀ (s : State) (c : Instr) (rest : List Instr), s.pending = c :: rest → step s = exec c { s with pending := rest }

/-- The model's choices 4 and 7: with no command waiting the part takes the steps already due and nothing else, and a row
whose event cannot come about leaves a settled part as it is. -/
def Obligations.NothingDue : Prop :=
  (∀ s : State, s.pending = [] → step s = .next s.settle) ∧
    ∀ s : State, s.settled →
      (s.pending = [] → step s = .next s) ∧
      exec .encodeJobStart s = .next s ∧ exec .decodeJobStart s = .next s ∧ exec .groupAdmission s = .next s ∧
      exec .groupDiscard s = .next s ∧ exec .quietTimeout s = .next s ∧
      (s.pwq.entries = [] → exec .drain s = .next s) ∧
      (s.ffu.buffer = none → exec .fetchHeaderRead s = .next s ∧ exec .fetchBodyRead s = .next s) ∧
      ∀ k, (∀ r ∈ s.engine.running, r.job.ctx ≠ k) →
        exec (.encodeEndOfWork k) s = .next s ∧ exec (.decodeJobCompletion k) s = .next s

/-- The model's choice 6: a master access whose operand is no burst of the bus stops with a fault, under every row. -/
def Obligations.IllFormedBurst : Prop :=
  (∀ (s : State) (b : WriteBurst), b.wf = false →
    ∀ c ∈ [Instr.ingressPcmWrite b, .mobileIngressWrite b, .controlAreaWrite b, .egressConsumerWrite b, .noticeConsumerWrite b,
      .masterWrite b, .ctxOpen b, .ctxModify b, .ctxHandover b, .ctxClose b, .ctxReport b, .ctxBadCommand b, .ctlStart b,
      .ctlStop b, .ctlClear b, .ctlBadCommand b], exec c s = .fault .notABurst) ∧
    ∀ (s : State) (b : ReadBurst), b.wf = false →
      exec (.egressPcmRead b) s = .fault .notABurst ∧ exec (.masterRead b) s = .fault .notABurst

/-- R172, R110: the values power-on clear leaves, block by block and field by field of a context record; every law below holds
there. -/
def Obligations.ResetValues : Prop :=
  let s := State.reset
  s.part.state = .idle ∧ s.part.windows = none ∧ s.erw.ready = false ∧ s.ntw.event = false ∧
    s.ctxs.length = 384 ∧
    (∀ c ∈ s.ctxs, c.state = .closed ∧ c.closeTag = 0 ∧ c.closeCode = 0 ∧ c.runningJobs = 0 ∧
      c.half0.codes = List.replicate 160 0 ∧ c.half1.codes = List.replicate 160 0 ∧ c.half0.talkSeen = false ∧
      c.half1.talkSeen = false ∧ c.half0.seq = 0 ∧ c.half1.seq = 0 ∧ c.fillingOne = false ∧ c.seqCounter = 0 ∧
      c.p = List.replicate 160 0 ∧ c.n = List.replicate 160 0 ∧ c.nReady = false ∧ c.replay = 0 ∧
      (c.inDet.level = 0 ∧ c.inDet.floor = 0 ∧ c.inDet.talk = .quiet) ∧
      (c.outDet.level = 0 ∧ c.outDet.floor = 0 ∧ c.outDet.talk = .quiet) ∧
      (c.enc.recon = 0 ∧ c.enc.xPrev = 0 ∧ c.enc.dtx = .silent 0) ∧
      (c.dec.recon = 0 ∧ c.dec.loss = 0 ∧ c.dec.state = .initial ∧ c.dec.comfort = 0 ∧ c.dec.gen = 0 ∧ c.dec.latest = 0) ∧
      c.playout = [] ∧ c.expected = none ∧ c.counters.list = List.replicate 9 0 ∧
      c.edges.uplinkMissed = false ∧ c.edges.egressFull = false ∧ c.edges.slip = false ∧ c.edges.rejected = false ∧
      c.cfg = { law := .seg13, uplink := false, downlink := false, inSlot := 0, outSlot := 0, tag := 0, allowed := 0
                request := 0, dtx := false, hangover := 0, tOn := 0, h := 0, decay := 0, echoShift := 0, margin := 0
                priority := .normal, q := 0, d := 0, tmplLen := 0, tmpl := List.replicate 8 0 }) ∧
    s.tsm.taps = List.replicate 512 [] ∧ s.tsm.claims = List.replicate 512 [] ∧ s.tags = [] ∧
    s.pool.free = 4096 ∧ s.pool.low = false ∧ s.engine.running = [] ∧ s.engine.jobs = [] ∧
    s.ffu.queue = [] ∧ s.ffu.buffer = none ∧ s.ffu.overrun = false ∧ s.pwq.entries = [] ∧ s.pwq.waiting = [] ∧
    s.mpa.drainCount = 0 ∧ s.mpa.fetchCount = 0 ∧ s.clocks.inPos = 0 ∧ s.clocks.inFrame = 0 ∧ s.clocks.frameNo = 0 ∧
    s.clocks.outPos = 0 ∧ s.clocks.outFrame = 0 ∧ s.erw.producer = 0 ∧ s.erw.waiting = 0 ∧ s.erw.consumer = 0 ∧
    s.erw.latch = false ∧ s.ntw.producer = 0 ∧ s.ntw.waiting = 0 ∧ s.ntw.consumer = 0 ∧ s.ntw.lost = false ∧
    s.ntw.timer = 0 ∧ s.ntw.latch = false ∧ (∀ off, Memory.get s.shadow off = 0) ∧ s.pending = [] ∧
    (s.queueLaw ∧ s.laneLaw ∧ s.memoryLaw ∧ s.counterLaw ∧ s.detectorLaw ∧ s.coderLaw ∧ s.rangeLaw ∧ s.lineLaw ∧
      s.fetchLaw ∧ s.mapLaw ∧ s.tagLaw ∧ s.poolLaw ∧ s.lowLaw ∧ s.playoutLaw ∧ s.jobLaw ∧ s.slotLaw ∧ s.sizeLaw)

/-- R172, R73, R171: both resets complete in every state, sample the straps, leave frame memory unwritten and differ only in
the shadow. The model's choices, of which R172 says nothing: that the four settings START takes are a trigger of 1, a quiet
limit of 0, LEVEL and a threshold of 1 (choice 11), that no read data are left (choice 15), and that the queue of commands,
the fitted memory and the count of open reads are kept (choice 17). -/
def Obligations.ResetCommands : Prop :=
  ∀ (s : State) (cbBase : BitVec 13) (memSize : BitVec 3),
    exec (.powerOnClear cbBase memSize) s = .next { State.reset with
      part := { State.reset.part with cbBase := cbBase, memSize := memSize }
      mem := s.mem, openReads := s.openReads, fitted := s.fitted, pending := s.pending } ∧
    exec (.pinReset cbBase memSize) s = .next { State.reset with
      part := { State.reset.part with cbBase := cbBase, memSize := memSize }
      shadow := s.shadow, mem := s.mem, openReads := s.openReads, fitted := s.fitted, pending := s.pending }

/-! ### Master accesses -/

/-- R58, R77, R171: the area an address lies in, for an address of one window alone (START refuses layouts that overlap,
R174); the enabled bytes of a burst, lane by lane; what supersession leaves of an entry. R155, R154: a passed master write
reaches memory, takes its bytes out of the queue, and every later read of a byte it wrote returns that byte; no other byte
reads differently and nothing else of the part changes but the grant counters. That a byte beyond the fitted memory is lost is
the model's choice 9. Where the write deletes a queued entry, that the waiting groups are examined only after it is the
model's choice 28. -/
def Obligations.PlainWrite : Prop :=
  (∀ (s : State) (a : Nat),
    let inside (base size : Nat) := base ≤ a ∧ a < base + size
    let control := inside (s.part.cbBase.toNat * 32768) 32768
    s.controlBase = s.part.cbBase.toNat * 32768 ∧
      (control → s.areaOf a = .control) ∧ (¬ control → s.part.state = .idle → s.areaOf a = .plain) ∧
      ∀ w, s.part.windows = some w → s.win = w ∧
        let ingress := inside w.ingressBase (w.frames * w.slots)
        let egress := inside w.egressBase (w.frames * w.slots)
        let mobile := inside w.mobInBase (w.ni * 128)
        (s.part.state = .running → ¬ control →
          (ingress → ¬ egress → ¬ mobile → s.areaOf a = .ingressPcm) ∧
          (egress → ¬ ingress → ¬ mobile → s.areaOf a = .egressPcm) ∧
          (mobile → ¬ ingress → ¬ egress → s.areaOf a = .mobileIngress) ∧
          (¬ ingress → ¬ egress → ¬ mobile → s.areaOf a = .plain))) ∧
  (∀ (b : WriteBurst) (a : Nat),
    (a < b.addr.toNat ∨ b.addr.toNat + 4 * b.words.length ≤ a → cellAt (burstCells b) a = none) ∧
      ∀ i l, b.words[i]? = some l →
        let first := b.addr.toNat + 4 * i
        cellAt (burstCells b) first = l.b0 ∧ cellAt (burstCells b) (first + 1) = l.b1 ∧
          cellAt (burstCells b) (first + 2) = l.b2 ∧ cellAt (burstCells b) (first + 3) = l.b3) ∧
  (∀ (w : QWord) (cells : List (Nat × Byte)) (a : Nat),
    (w.strip cells).addr = w.addr ∧ (w.strip cells).byteAt a = (if (cellAt cells a).isSome then none else w.byteAt a) ∧
      (w.enabled = true ↔ ∃ i < 4, (w.byteAt (w.addr + i)).isSome = true)) ∧
  ∀ (s : State) (b : WriteBurst), b.wf = true → s.masterTurn → s.memoryLaw →
    (s.areaOf b.addr.toNat = .plain ∨ s.areaOf b.addr.toNat = .egressPcm) →
    ∃ t, exec (.masterWrite b) s = .next t ∧
      t = { s with mem := t.mem, pwq := { s.pwq with entries := t.pwq.entries }, mpa := s.mpa.afterMaster } ∧
      t.pwq.entries = (s.pwq.entries.map (QWord.strip (burstCells b))).filter QWord.enabled ∧
      (∀ a v, cellAt (burstCells b) a = some v → a < s.fitted → Memory.get t.mem a = v ∧ t.readByte a = v) ∧
      (∀ a, cellAt (burstCells b) a = none → Memory.get t.mem a = Memory.get s.mem a ∧ t.readByte a = s.readByte a) ∧
      (∀ a, s.fitted ≤ a → Memory.get t.mem a = Memory.get s.mem a) ∧
      (∀ w ∈ t.pwq.entries, w.enabled = true ∧ ∀ a v, cellAt (burstCells b) a = some v → w.byteAt a = none)

/-- R154: a master read outside the egress PCM ring returns, byte by byte, what the newest queue entry enables there, else
memory's byte (a free value beyond the fitted memory, the model's choice 9), an entry's bytes lying at its address and the three
after it; it changes nothing of the part but the grant counters. -/
def Obligations.PlainRead : Prop :=
  (∀ (w : QWord) (a : Nat),
    w.byteAt w.addr = w.lanes.b0 ∧ w.byteAt (w.addr + 1) = w.lanes.b1 ∧ w.byteAt (w.addr + 2) = w.lanes.b2 ∧
      w.byteAt (w.addr + 3) = w.lanes.b3 ∧ (a < w.addr ∨ w.addr + 4 ≤ a → w.byteAt a = none)) ∧
  (∀ (s : State) (a : Nat), a < s.fitted → s.memByte a = Memory.get s.mem a) ∧
  (∀ (s : State) (a : Nat),
    s.readByte a = ((s.pwq.entries.filterMap fun w => w.byteAt a).getLast?).getD (s.memByte a)) ∧
  ∀ (s : State) (b : ReadBurst), b.wf = true → s.masterTurn → s.areaOf b.addr.toNat ≠ .egressPcm →
    exec (.masterRead b) s = .next { s with
      mpa := s.mpa.afterMaster
      readData := (List.range (4 * b.count)).map fun i => s.readByte (b.addr.toNat + i)
      openReads := if b.addr.toNat + 4 * b.count ≤ s.fitted then s.openReads else s.openReads + 1 }

/-- R61, R64, R66, R67, R155 and the frame of an ingress PCM write: the ingress clock moves to the access's ring frame, the
quiet timer counts the steps, memory takes the bytes, exactly the ACTIVE uplink contexts whose boundary is crossed flip, and of
a context only the ingress tap's fields, UPLINK_MISSED and its edge flag may change. Bytes beyond the fitted memory: the model's
choice 9. Where the write deletes a queued entry, the examination of the waiting groups comes after all this: the model's
choice 28. -/
def Obligations.IngressWrite : Prop :=
  ∀ (s : State) (b : WriteBurst), b.wf = true → s.masterTurn → s.memoryLaw → s.rangeLaw →
    s.areaOf b.addr.toNat = .ingressPcm →
    let f := (b.addr.toNat - s.win.ingressBase) / s.win.slots
    let k := (f + s.win.frames - s.clocks.inFrame) % s.win.frames
    let crossed j := (s.ctx j).state = .active ∧ (s.ctx j).cfg.uplink = true ∧
      ∃ i, 1 ≤ i ∧ i ≤ k ∧ (s.clocks.inPos + i) % 160 = 20 * ((s.ctx j).cfg.inSlot % 8)
    ∃ t, exec (.ingressPcmWrite b) s = .next t ∧
      t.clocks = { s.clocks with
        inPos := (s.clocks.inPos + k) % 160, inFrame := f
        frameNo := if s.clocks.inPos + k < 160 then s.clocks.frameNo else s.clocks.frameNo + 1 } ∧
      t.ntw = { s.ntw with timer := min 65535 (s.ntw.timer + k), waiting := t.ntw.waiting, lost := t.ntw.lost } ∧
      t = { s with
        clocks := t.clocks, ctxs := t.ctxs, engine := { s.engine with jobs := t.engine.jobs }, pwq := t.pwq
        mpa := s.mpa.afterMaster, ntw := t.ntw, mem := t.mem } ∧
      (∀ j, t.ctx j = { s.ctx j with
        half0 := (t.ctx j).half0, half1 := (t.ctx j).half1, fillingOne := (t.ctx j).fillingOne
        seqCounter := (t.ctx j).seqCounter, inDet := (t.ctx j).inDet
        counters := { (s.ctx j).counters with uplinkMissed := (t.ctx j).counters.uplinkMissed }
        edges := { (s.ctx j).edges with uplinkMissed := (t.ctx j).edges.uplinkMissed } }) ∧
      (∀ j, (s.ctx j).state ≠ .active → (∀ ts, j ∉ s.tapSet ts) → t.ctx j = s.ctx j) ∧
      (∀ j, crossed j →
        let c := s.ctx j
        (t.ctx j).fillingOne = !c.fillingOne ∧ (t.ctx j).seqCounter = c.seqCounter + 1 ∧
          (c.fillingOne = true → (t.ctx j).half1 = { c.half1 with seq := c.seqCounter } ∧ (t.ctx j).half0.seq = c.half0.seq) ∧
          (c.fillingOne = false → (t.ctx j).half0 = { c.half0 with seq := c.seqCounter } ∧ (t.ctx j).half1.seq = c.half1.seq) ∧
          t.pendingCount j .encode = 1 ∧
          (Job.mk j .encode ∈ s.engine.jobs →
            (t.ctx j).counters.uplinkMissed = min (c.counters.uplinkMissed + 1) 65535 ∧ (t.ctx j).edges.uplinkMissed = true) ∧
          (Job.mk j .encode ∉ s.engine.jobs → (t.ctx j).counters = c.counters ∧ (t.ctx j).edges = c.edges)) ∧
      (∀ j, ¬ crossed j →
        let c := s.ctx j
        (t.ctx j).fillingOne = c.fillingOne ∧ (t.ctx j).seqCounter = c.seqCounter ∧
          (c.fillingOne = true → (t.ctx j).half0 = c.half0 ∧ (t.ctx j).half1.seq = c.half1.seq) ∧
          (c.fillingOne = false → (t.ctx j).half1 = c.half1 ∧ (t.ctx j).half0.seq = c.half0.seq) ∧
          t.pendingCount j .encode = s.pendingCount j .encode ∧
          (t.ctx j).counters = c.counters ∧ (t.ctx j).edges = c.edges) ∧
      (∀ j, t.pendingCount j .decode = s.pendingCount j .decode) ∧
      ((∀ j, crossed j → Job.mk j .encode ∉ s.engine.jobs ∨ (s.ctx j).edges.uplinkMissed = true) →
        t.ntw.waiting = s.ntw.waiting ∧ t.ntw.lost = s.ntw.lost ∧ t.pwq.waiting = s.pwq.waiting) ∧
      t.pwq.entries = (s.pwq.entries.map (QWord.strip (burstCells b))).filter QWord.enabled ∧
      (∀ w ∈ t.pwq.entries, w.enabled = true ∧ ∀ a v, cellAt (burstCells b) a = some v → w.byteAt a = none) ∧
      (∀ a v, cellAt (burstCells b) a = some v → a < s.fitted → Memory.get t.mem a = v ∧ t.readByte a = v) ∧
      (∀ a, s.fitted ≤ a → Memory.get t.mem a = Memory.get s.mem a) ∧
      (∀ a, cellAt (burstCells b) a = none → Memory.get t.mem a = Memory.get s.mem a ∧ t.readByte a = s.readByte a)

/-- R61, R66, R67, R40, R47, R80: one byte written into the current ring frame is stored by each context of its tap set at the
context's position, steps its ingress detector and may set the talk-seen flag; every other context keeps its record. The bytes
of any ingress PCM write, in the order of their addresses, are stored so by the contexts of their tap sets after the advance and
its flips, at the positions the advance leaves. Where the write deletes a queued
entry, that the waiting groups are examined only after it is the model's choice 28. -/
def Obligations.TapStoresByte : Prop :=
  (∀ (s : State) (b : WriteBurst) (a : Nat) (v : Byte), b.wf = true → s.masterTurn → s.rangeLaw →
    s.areaOf b.addr.toNat = .ingressPcm → burstCells b = [(a, v)] →
    (b.addr.toNat - s.win.ingressBase) / s.win.slots = s.clocks.inFrame →
    let taps := s.tapSet ((a - s.win.ingressBase) % s.win.slots)
    taps.Nodup → (∀ k ∈ taps, k < s.ctxs.length) →
    ∃ t, exec (.ingressPcmWrite b) s = .next t ∧ t.clocks = s.clocks ∧
      (∀ k, k ∉ taps → t.ctx k = s.ctx k) ∧
      ∀ k ∈ taps,
        let c := s.ctx k
        let pos := (s.clocks.inPos + 160 - 20 * (c.cfg.inSlot % 8)) % 160
        let det := c.inDet.step c.cfg (magnitudeIndex c.cfg.law v)
        let seen := decide (det.talk = .talking)
        t.ctx k =
          if c.fillingOne then
            { c with inDet := det
                     half1 := { c.half1 with codes := c.half1.codes.set pos v, talkSeen := c.half1.talkSeen || seen } }
          else
            { c with inDet := det
                     half0 := { c.half0 with codes := c.half0.codes.set pos v, talkSeen := c.half0.talkSeen || seen } }) ∧
  ∀ (s : State) (b : WriteBurst), b.wf = true → s.masterTurn → s.rangeLaw → s.areaOf b.addr.toNat = .ingressPcm →
    (∀ ts, (s.tapSet ts).Nodup) → (∀ ts, ∀ j ∈ s.tapSet ts, j < s.ctxs.length) →
    let f := (b.addr.toNat - s.win.ingressBase) / s.win.slots
    let k := (f + s.win.frames - s.clocks.inFrame) % s.win.frames
    let crossed j := (s.ctx j).state = .active ∧ (s.ctx j).cfg.uplink = true ∧
      ∃ i, 1 ≤ i ∧ i ≤ k ∧ (s.clocks.inPos + i) % 160 = 20 * ((s.ctx j).cfg.inSlot % 8)
    ∃ t, exec (.ingressPcmWrite b) s = .next t ∧ ∀ j,
      let c := s.ctx j
      let bytes := ((burstCells b).filter fun x => decide (j ∈ s.tapSet ((x.1 - s.win.ingressBase) % s.win.slots))).map (·.2)
      let pos := ((s.clocks.inPos + k) % 160 + 160 - 20 * (c.cfg.inSlot % 8)) % 160
      let tapped (h : Half) := bytes.foldl (fun (x : Detector × Half) v =>
        let det := x.1.step c.cfg (magnitudeIndex c.cfg.law v)
        (det, { x.2 with codes := x.2.codes.set pos v, talkSeen := x.2.talkSeen || decide (det.talk = .talking) })) (c.inDet, h)
      let filling := if c.fillingOne then c.half1 else c.half0
      let other := if c.fillingOne then c.half0 else c.half1
      let fillingAfter := if (t.ctx j).fillingOne then (t.ctx j).half1 else (t.ctx j).half0
      (¬ crossed j → (t.ctx j).fillingOne = c.fillingOne ∧
        (t.ctx j).inDet = (tapped filling).1 ∧ fillingAfter = (tapped filling).2) ∧
      (crossed j → (t.ctx j).fillingOne = !c.fillingOne ∧
        (t.ctx j).inDet = (tapped { other with talkSeen := false }).1 ∧
        fillingAfter = (tapped { other with talkSeen := false }).2)

/-- R67: a flip. -/
def Obligations.FlipHalves : Prop :=
  ∀ (s : State) (k : Nat), k < s.ctxs.length →
    let c := s.ctx k
    let t := s.flip k
    let missed := decide (Job.mk k .encode ∈ s.engine.jobs)
    t.pendingCount k .encode = 1 ∧
      (∀ j, j ≠ Job.mk k .encode → t.engine.jobs.count j = s.engine.jobs.count j) ∧
      t.engine.running = s.engine.running ∧
      (∀ i, i ≠ k → t.ctx i = s.ctx i) ∧
      t.ctx k =
        { c with
          half0 := if c.fillingOne then { c.half0 with talkSeen := false } else { c.half0 with seq := c.seqCounter }
          half1 := if c.fillingOne then { c.half1 with seq := c.seqCounter } else { c.half1 with talkSeen := false }
          fillingOne := !c.fillingOne
          seqCounter := c.seqCounter + 1
          counters := if missed then { c.counters with uplinkMissed := min (c.counters.uplinkMissed + 1) 65535 } else c.counters
          edges := if missed then { c.edges with uplinkMissed := true } else c.edges } ∧
      ((missed = false ∨ c.edges.uplinkMissed = true) → t.pwq = s.pwq ∧ t.ntw = s.ntw) ∧
      ((missed = true ∧ c.edges.uplinkMissed = false) →
        let u := s.placeNotice .uplinkMissed k (if c.fillingOne then c.half0.seq.toNat else c.half1.seq.toNat)
          (List.replicate 9 0)
        t.pwq = u.pwq ∧ t.ntw = u.ntw)

/-- R62, R64, R70 to R72, R87 and the frame of an egress PCM read: exactly the ACTIVE downlink contexts whose boundary is
crossed swap, where N is ready, or slip. The count of open reads: the model's choices 9 and 26. -/
def Obligations.EgressRead : Prop :=
  ∀ (s : State) (b : ReadBurst), b.wf = true → s.masterTurn → s.rangeLaw → s.areaOf b.addr.toNat = .egressPcm →
    let f := (b.addr.toNat - s.win.egressBase) / s.win.slots
    let k := (f + s.win.frames - s.clocks.outFrame) % s.win.frames
    let crossed j := (s.ctx j).state = .active ∧ (s.ctx j).cfg.downlink = true ∧
      ∃ i, 1 ≤ i ∧ i ≤ k ∧ (s.clocks.outPos + i) % 160 = 20 * ((s.ctx j).cfg.outSlot % 8)
    ∃ t, exec (.egressPcmRead b) s = .next t ∧
      t.clocks = { s.clocks with outPos := (s.clocks.outPos + k) % 160, outFrame := f } ∧
      t.readData.length = 4 * b.count ∧
      (∀ i < 4 * b.count, t.readData.getD i 0 =
        match s.claimList ((b.addr.toNat + i - s.win.egressBase) % s.win.slots) with
        | [] => s.readByte (b.addr.toNat + i)
        | head :: _ =>
          let c := t.ctx head
          let code := c.p.getD ((t.clocks.outPos + 160 - 20 * (c.cfg.outSlot % 8)) % 160) (silence c.cfg.law)
          if c.replay = 0 then code
          else if c.replay ≤ 3 then compress c.cfg.law (shiftRight (expand c.cfg.law code) c.replay)
          else silence c.cfg.law) ∧
      t = { s with
        clocks := t.clocks, ctxs := t.ctxs, engine := { s.engine with jobs := t.engine.jobs }
        pwq := { s.pwq with waiting := t.pwq.waiting }, mpa := s.mpa.afterMaster
        ntw := { s.ntw with waiting := t.ntw.waiting, lost := t.ntw.lost }, readData := t.readData
        openReads := if b.addr.toNat + 4 * b.count ≤ s.fitted then s.openReads else s.openReads + 1 } ∧
      (∀ j, crossed j → (s.ctx j).nReady = true →
        t.ctx j = { s.ctx j with
          p := (s.ctx j).n, n := (s.ctx j).p, nReady := false, replay := 0, edges := { (s.ctx j).edges with slip := false } } ∧
        t.pendingCount j .decode = s.pendingCount j .decode + 1) ∧
      (∀ j, crossed j → (s.ctx j).nReady = false →
        t.ctx j = { s.ctx j with
          replay := min ((s.ctx j).replay + 1) 4
          counters := { (s.ctx j).counters with slips := min ((s.ctx j).counters.slips + 1) 65535 }
          edges := { (s.ctx j).edges with slip := true } } ∧
        t.pendingCount j .decode = s.pendingCount j .decode) ∧
      (∀ j, ¬ crossed j → t.ctx j = s.ctx j ∧ t.pendingCount j .decode = s.pendingCount j .decode) ∧
      (∀ j, t.pendingCount j .encode = s.pendingCount j .encode) ∧
      ((∀ j, crossed j → (s.ctx j).nReady = true ∨ (s.ctx j).edges.slip = true) →
        t.ntw = s.ntw ∧ t.pwq.waiting = s.pwq.waiting) ∧
      (k = 0 → t.ctxs = s.ctxs ∧ t.engine = s.engine)

/-- R70, R71: an egress boundary swaps where N is ready and slips where it is not. -/
def Obligations.SwapOrSlip : Prop :=
  ∀ (s : State) (k : Nat), k < s.ctxs.length →
    let c := s.ctx k
    let t := s.egressBoundary k
    (∀ i, i ≠ k → t.ctx i = s.ctx i) ∧ t.engine.running = s.engine.running ∧
      (c.nReady = true →
        t.ctx k = { c with p := c.n, n := c.p, nReady := false, replay := 0, edges := { c.edges with slip := false } } ∧
          t.engine.jobs = s.engine.jobs ++ [Job.mk k .decode] ∧ t.pwq = s.pwq ∧ t.ntw = s.ntw) ∧
      (c.nReady = false →
        t.ctx k = { c with replay := min (c.replay + 1) 4
                           counters := { c.counters with slips := min (c.counters.slips + 1) 65535 }
                           edges := { c.edges with slip := true } } ∧
          t.engine.jobs = s.engine.jobs ∧ (c.edges.slip = true → t.pwq = s.pwq ∧ t.ntw = s.ntw) ∧
          (c.edges.slip = false →
            t.ntw = (s.placeNotice .slip k (min (c.replay + 1) 4) (List.replicate 9 0)).ntw ∧
              t.pwq = (s.placeNotice .slip k (min (c.replay + 1) 4) (List.replicate 9 0)).pwq))

/-- R76, R113, R114, R112, R121: what a mobile ingress write gives the fetch unit. Bytes beyond the fitted memory: the model's
choice 9. Where the write deletes a queued entry, that the waiting groups are examined only after it is the model's choice 28.
-/
def Obligations.MobileIngressEvent : Prop :=
  ∀ (s : State) (b : WriteBurst), b.wf = true → s.masterTurn → s.memoryLaw → s.fetchLaw →
    s.areaOf b.addr.toNat = .mobileIngress →
    let slot := (b.addr.toNat - s.win.mobInBase) / 128
    let valid := cellAt (burstCells b) (s.win.mobInBase + 128 * slot + 3)
    let queue := s.ffu.queue
    let waiting : FetchEntry := { slot := slot, state := .waiting }
    let reading : FetchEntry := { slot := slot, state := .reading }
    let stale := s.ffu.buffer.map fun f => { f with stale := true }
    ∃ t, exec (.mobileIngressWrite b) s = .next t ∧
      t = { s with mem := t.mem, pwq := t.pwq, mpa := s.mpa.afterMaster, ffu := t.ffu, ntw := t.ntw } ∧
      (∀ a, s.fitted ≤ a → Memory.get t.mem a = Memory.get s.mem a) ∧
      (∀ a v, cellAt (burstCells b) a = some v → a < s.fitted → Memory.get t.mem a = v ∧ t.readByte a = v) ∧
      (∀ a, cellAt (burstCells b) a = none → Memory.get t.mem a = Memory.get s.mem a ∧ t.readByte a = s.readByte a) ∧
      t.pwq.entries = (s.pwq.entries.map (QWord.strip (burstCells b))).filter QWord.enabled ∧
      (∀ w ∈ t.pwq.entries, w.enabled = true ∧ ∀ a v, cellAt (burstCells b) a = some v → w.byteAt a = none) ∧
      (valid = none → t.ffu = s.ffu ∧ t.ntw = s.ntw ∧ t.pwq.waiting = s.pwq.waiting) ∧
      (∀ v, valid = some v → v.getLsbD 7 = true →
        (waiting ∈ queue ∨ reading ∈ queue ∨ queue.length < 16 → t.ntw = s.ntw ∧ t.pwq.waiting = s.pwq.waiting) ∧
        (waiting ∈ queue → t.ffu = s.ffu) ∧
        (reading ∈ queue →
          t.ffu = { s.ffu with queue := queue.filter (fun e => decide (e ≠ reading)) ++ [waiting], buffer := stale }) ∧
        (waiting ∉ queue → reading ∉ queue →
          (queue.length < 16 → s.ffu.buffer ≠ none → t.ffu = { s.ffu with queue := queue ++ [waiting] }) ∧
          (s.ffu.buffer = none →
            t.ffu = { s.ffu with queue := [reading], buffer := some { slot := slot, stale := false, phase := .header } }) ∧
          (queue.length = 16 → t.ffu = { s.ffu with overrun := true } ∧
            (s.ffu.overrun = true → t.ntw = s.ntw ∧ t.pwq.waiting = s.pwq.waiting) ∧
            (s.ffu.overrun = false →
              t.ntw = (s.placeNotice .fetchOverrun 0xFFFF slot (List.replicate 9 0)).ntw ∧
                t.pwq.waiting = (s.placeNotice .fetchOverrun 0xFFFF slot (List.replicate 9 0)).pwq.waiting)))) ∧
      (∀ v, valid = some v → v.getLsbD 7 = false → t.ntw = s.ntw ∧ t.pwq.waiting = s.pwq.waiting ∧
        (waiting ∈ queue → t.ffu.queue = queue.filter (fun e => decide (e ≠ waiting)) ∧ t.ffu.buffer = s.ffu.buffer) ∧
        (reading ∈ queue → t.ffu.queue = queue.filter (fun e => decide (e ≠ reading)) ∧ t.ffu.buffer = stale) ∧
        (waiting ∉ queue → reading ∉ queue → t.ffu = s.ffu) ∧
        (t.ffu.queue = [] → t.ffu.overrun = false) ∧ (t.ffu.queue ≠ [] → t.ffu.overrun = s.ffu.overrun))

/-! ### The control area -/

/-- R73, R74: a control-area write that includes no command word's byte 0, or one whose code is then 0, and no consumer word
in RUNNING, copies its enabled bytes into memory and the shadow and does nothing else but count its grant. Where the write
deletes a queued entry, that the waiting groups are examined only after it is the model's choice 28. Bytes beyond the fitted
memory: its choice 9. -/
def Obligations.ShadowWrite : Prop :=
  ∀ (s : State) (b : WriteBurst), b.wf = true → s.masterTurn → s.memoryLaw → s.areaOf b.addr.toNat = .control →
    let offs := s.controlCells (burstCells b)
    ((includedCommand offs = none ∧
        (s.part.state = .running → ∀ c ∈ offs, ¬ (0x34 ≤ c.1 ∧ c.1 < 0x38) ∧ ¬ (0x3C ≤ c.1 ∧ c.1 < 0x40))) ∨
      ∃ w, includedCommand offs = some w ∧ Memory.get (s.written b).shadow w.offset = 0) →
    ∃ t, exec (.controlAreaWrite b) s = .next t ∧
      t = { s with mem := t.mem, shadow := t.shadow, pwq := { s.pwq with entries := t.pwq.entries }, mpa := s.mpa.afterMaster } ∧
      t.pwq.entries = (s.pwq.entries.map (QWord.strip (burstCells b))).filter QWord.enabled ∧
      (∀ w ∈ t.pwq.entries, w.enabled = true ∧ ∀ a v, cellAt (burstCells b) a = some v → w.byteAt a = none) ∧
      (∀ a v, cellAt (burstCells b) a = some v →
        Memory.get t.shadow (a - s.controlBase) = v ∧ (a < s.fitted → Memory.get t.mem a = v ∧ t.readByte a = v)) ∧
      (∀ a, s.fitted ≤ a → Memory.get t.mem a = Memory.get s.mem a) ∧
      (∀ off, cellAt (burstCells b) (s.controlBase + off) = none → Memory.get t.shadow off = Memory.get s.shadow off) ∧
      (∀ a, cellAt (burstCells b) a = none → Memory.get t.mem a = Memory.get s.mem a ∧ t.readByte a = s.readByte a)

/-- R75, R163, R164, R168 to R170: in RUNNING a write of a consumer word gives the writer the word modulo its ring, and the
line is examined; one write can do both. Where the write deletes a queued entry, that this comes before the examination of the
waiting groups, and so before the admissions it makes room for, is the model's choice 28. -/
def Obligations.ConsumerWrites : Prop :=
  ∀ (s : State) (b : WriteBurst), b.wf = true → s.masterTurn → s.areaOf b.addr.toNat = .control →
    s.part.state = .running →
    let offs := s.controlCells (burstCells b)
    includedCommand offs = none →
    let g := s.written b
    let word off := (Memory.get g.shadow off).toNat + 256 * (Memory.get g.shadow (off + 1)).toNat
    let consumer := word 0x34 % s.win.ne
    let count := (s.erw.producer + s.win.ne - consumer) % s.win.ne
    let latch := match s.part.readyMode with
      | .level => s.erw.latch
      | .burst => if s.part.threshold ≤ count then true else if count = 0 then false else s.erw.latch
    let erw := { s.erw with
      consumer := consumer, latch := latch
      ready := match s.part.readyMode with
        | .level => decide (1 ≤ count)
        | .burst => latch }
    let notices := word 0x3C % s.win.nn
    let ntw := { s.ntw with
      consumer := notices, timer := 0, latch := false
      event := decide (s.part.trigger ≤ (s.ntw.producer + s.win.nn - notices) % s.win.nn) }
    let egress := ∃ c ∈ offs, 0x34 ≤ c.1 ∧ c.1 < 0x38
    let notice := ∃ c ∈ offs, 0x3C ≤ c.1 ∧ c.1 < 0x40
    (egress → ¬ notice → exec (.egressConsumerWrite b) s = .next { g with erw := erw }) ∧
      (notice → ¬ egress → exec (.noticeConsumerWrite b) s = .next { g with ntw := ntw }) ∧
      (egress → notice → exec (.egressConsumerWrite b) s = .next { g with erw := erw, ntw := ntw } ∧
        exec (.noticeConsumerWrite b) s = .next { g with erw := erw, ntw := ntw })

/-! ### Context commands -/

/-- R89, R97, R98, R82, R110, R119, 12.2: an OPEN that passes every check of R96, with each captured field read at its place in
the descriptor's shadow and clamped. Where the burst deletes a queued entry, that the OPEN comes before the examination of the
waiting groups is the model's choice 28. -/
def Obligations.OpenAccepted : Prop :=
  ∀ (s : State) (b : WriteBurst) (k : Nat) (tag : Byte), CommandGrant s b (.context k) 1 tag → s.ctxs.length = 384 →
    let g := s.written b
    let byte off := (Memory.get g.shadow (0x400 + 0x40 * k + off)).toNat
    let word off := byte off + 256 * byte (off + 1)
    let q := max 2 (min 8 (byte 0x1A))
    let cfg : Captured :=
      { law := if byte 0x08 = 1 then .seg15 else .seg13
        uplink := decide (byte 0x09 % 2 = 1), downlink := decide (byte 0x09 / 2 % 2 = 1)
        priority := if byte 0x0A % 2 = 1 then .high else .normal, dtx := decide (byte 0x0B % 2 = 1)
        inSlot := word 0x0C, outSlot := word 0x0E, tag := word 0x10
        allowed := BitVec.ofNat 3 (byte 0x12), request := min 3 (byte 0x13)
        tOn := byte 0x14, h := min (byte 0x14) (byte 0x15), decay := byte 0x16 % 4, hangover := byte 0x17 % 16
        echoShift := min 3 (byte 0x18), margin := byte 0x19, q := q, d := min (q - 1) (byte 0x1B)
        tmplLen := min 8 (byte 0x1C)
        tmpl := (List.range 8).map fun i => Memory.get g.shadow (0x400 + 0x40 * k + 0x20 + i) }
    let c := s.ctx k
    let quiet := List.replicate 160 (silence cfg.law)
    let det : Detector := { level := 0, floor := 8323072, talk := .quiet }
    let half : Half := { codes := quiet, talkSeen := false, seq := 0 }
    s.part.state = .running → c.state = .closed → (Memory.get g.shadow (0x408 + 0x40 * k)).toNat ≤ 1 →
    (cfg.uplink = true ∨ cfg.downlink = true) →
    (cfg.uplink = true → cfg.inSlot < s.win.slots ∧ cfg.allowed ≠ 0 ∧ (s.tapSet cfg.inSlot).length < 3) →
    (cfg.downlink = true → cfg.outSlot < s.win.slots ∧ cfg.tag ≠ 0 ∧ (∀ p ∈ s.tags, p.1 ≠ cfg.tag) ∧
      (s.claimList cfg.outSlot).length < 3) →
    k < 384 ∧ (cfg.request ≤ 3 ∧ cfg.h ≤ cfg.tOn ∧ cfg.echoShift ≤ 3 ∧ 2 ≤ cfg.q ∧ cfg.q ≤ 8 ∧ cfg.d ≤ cfg.q - 1 ∧
      cfg.tmplLen ≤ 8) ∧
    exec (.ctxOpen b) s = .next { g.withStatus (descriptor k + 4) .done tag 1 1 with
      ctxs := s.ctxs.set k
        { c with
          cfg := cfg, state := .active, runningJobs := 0, half0 := half, half1 := half, fillingOne := false, seqCounter := 0
          p := quiet, n := quiet, nReady := false, replay := 0, inDet := det, outDet := det
          enc := { recon := 0, xPrev := 0, dtx := .silent 0 }
          dec := { recon := 0, loss := 0, state := .initial, comfort := 0, gen := 0x4A5D#16 ^^^ BitVec.ofNat 16 k, latest := 3 }
          playout := [], expected := none
          counters := { encoded := 0, sent := 0, uplinkMissed := 0, egressDropped := 0, received := 0, late := 0,
                        rejected := 0, concealed := 0, slips := 0 }
          edges := { uplinkMissed := false, egressFull := false, slip := false, rejected := false } }
      tsm :=
        { taps := if cfg.uplink then s.tsm.taps.set cfg.inSlot (s.tapSet cfg.inSlot ++ [k]) else s.tsm.taps
          claims := if cfg.downlink then s.tsm.claims.set cfg.outSlot (s.claimList cfg.outSlot ++ [k]) else s.tsm.claims }
      tags := if cfg.downlink then s.tags ++ [(cfg.tag, k)] else s.tags
      engine := { s.engine with jobs := if cfg.downlink then s.engine.jobs ++ [Job.mk k .decode] else s.engine.jobs } }

/-- R96, R99, R102, R103, R106, R92, R105, R179: each refusal of a context command, in the order of its checks, requests its
status word and changes nothing else beyond the write itself; a code of 6..255 is refused in every part state and context
state. Where the burst deletes a queued entry, that the context's state is looked at before the examination of the waiting
groups, which could end the drain of a CLOSING context, is the model's choice 28. -/
def Obligations.ContextRefusals : Prop :=
  ([Result.badCommand, .badState, .busy, .notRunning, .badParam, .tagInUse, .timeslotFull].map Result.code =
    [0x10, 0x11, 0x12, 0x13, 0x14, 0x15, 0x16]) ∧
  ∀ (s : State) (b : WriteBurst) (k : Nat) (code tag : Byte), CommandGrant s b (.context k) code tag →
    let g := s.written b
    let c := s.ctx k
    let cfg := readCaptured g.shadow k
    let answer r := Host.Outcome.next (φ := Fault) (ρ := Refusal)
      (g.withStatus (descriptor k + 4) r tag code (match c.state with | .closed => 0 | .active => 1 | .closing => 2))
    let badParam := 1 < (Memory.get g.shadow (0x408 + 0x40 * k)).toNat ∨ (cfg.uplink = false ∧ cfg.downlink = false) ∨
      (cfg.uplink = true ∧ s.win.slots ≤ cfg.inSlot) ∨ (cfg.downlink = true ∧ s.win.slots ≤ cfg.outSlot) ∨
      (cfg.downlink = true ∧ cfg.tag = 0) ∨ (cfg.uplink = true ∧ cfg.allowed = 0)
    let tagInUse := cfg.downlink = true ∧ ∃ p ∈ s.tags, p.1 = cfg.tag
    let full := (cfg.uplink = true ∧ 3 ≤ (s.tapSet cfg.inSlot).length) ∨
      (cfg.downlink = true ∧ 3 ≤ (s.claimList cfg.outSlot).length)
    (code = 1 →
      (s.part.state = .idle → exec (.ctxOpen b) s = answer .notRunning) ∧
      (s.part.state = .running → c.state = .closing → exec (.ctxOpen b) s = answer .busy) ∧
      (s.part.state = .running → c.state = .active → exec (.ctxOpen b) s = answer .badState) ∧
      (s.part.state = .running → c.state = .closed →
        (badParam → exec (.ctxOpen b) s = answer .badParam) ∧
        (¬ badParam → tagInUse → exec (.ctxOpen b) s = answer .tagInUse) ∧
        (¬ badParam → ¬ tagInUse → full → exec (.ctxOpen b) s = answer .timeslotFull))) ∧
    (code = 2 →
      (c.state = .closed → exec (.ctxModify b) s = answer .badState) ∧
      (c.state = .closing → exec (.ctxModify b) s = answer .busy) ∧
      (c.state = .active → c.cfg.uplink = true → (Memory.get g.shadow (0x412 + 0x40 * k)).toNat % 8 = 0 →
        exec (.ctxModify b) s = answer .badParam)) ∧
    (code = 3 →
      (c.state = .closed → exec (.ctxHandover b) s = answer .badState) ∧
      (c.state = .closing → exec (.ctxHandover b) s = answer .busy) ∧
      (c.state = .active → c.cfg.downlink = false → exec (.ctxHandover b) s = answer .badState)) ∧
    (code = 4 →
      (c.state = .closed → exec (.ctxClose b) s = answer .badState) ∧
      (c.state = .closing → exec (.ctxClose b) s = answer .busy)) ∧
    (code = 5 → c.state = .closed → exec (.ctxReport b) s = answer .badState) ∧
    (6 ≤ code.toNat → exec (.ctxBadCommand b) s = answer .badCommand)

/-- R99, R100, R89, 12.2: an accepted MODIFY replaces the adjustable fields, each read at its place in the descriptor's shadow
and clamped, and releases what a lowered Q no longer holds, the LOW flag being examined after each entry (R124). That the
entries leave nearest first is the model's choice 13. Where the burst deletes a queued entry, that the MODIFY comes before the
examination of the waiting groups is the model's choice 28. -/
def Obligations.ModifyAccepted : Prop :=
  ∀ (s : State) (b : WriteBurst) (k : Nat) (tag : Byte), CommandGrant s b (.context k) 2 tag → k < s.ctxs.length →
    let g := s.written b
    let c := s.ctx k
    let byte off := (Memory.get g.shadow (0x400 + 0x40 * k + off)).toNat
    let q := max 2 (min 8 (byte 0x1A))
    let new : Captured :=
      { c.cfg with
        priority := if byte 0x0A % 2 = 1 then .high else .normal, dtx := decide (byte 0x0B % 2 = 1)
        allowed := BitVec.ofNat 3 (byte 0x12), request := min 3 (byte 0x13)
        tOn := byte 0x14, h := min (byte 0x14) (byte 0x15), decay := byte 0x16 % 4, hangover := byte 0x17 % 16
        echoShift := min 3 (byte 0x18), margin := byte 0x19, q := q, d := min (q - 1) (byte 0x1B)
        tmplLen := min 8 (byte 0x1C)
        tmpl := (List.range 8).map fun i => Memory.get g.shadow (0x400 + 0x40 * k + 0x20 + i) }
    let released := match c.expected with
      | none => []
      | some x => if new.q < c.cfg.q then c.playout.filter fun e => decide (new.q ≤ distance x e.seq) else []
    c.state = .active → (c.cfg.uplink = true → new.allowed ≠ 0) →
    (new.law = c.cfg.law ∧ new.uplink = c.cfg.uplink ∧ new.downlink = c.cfg.downlink ∧ new.inSlot = c.cfg.inSlot ∧
      new.outSlot = c.cfg.outSlot ∧ new.tag = c.cfg.tag) ∧
    ∃ u, g.poolPasses u (countsAfter s.pool.free released) ∧
      u.pool.free = s.pool.free + (released.map (·.blocks)).sum ∧
      exec (.ctxModify b) s = .next ({ u with
        ctxs := s.ctxs.set k { c with
          cfg := new
          playout := if released = [] then c.playout else c.playout.filter fun e => decide (e ∉ released)
          counters := if released = [] then c.counters
            else { c.counters with late := min (c.counters.late + released.length) 65535 } } }.withStatus
        (descriptor k + 4) .done tag 2 1)

/-- R84, R102: an accepted HANDOVER moves the context to the head of the claim list of its egress timeslot, the others keep
their order, and nothing else of the part changes. Where the burst deletes a queued entry, that the HANDOVER comes before the
examination of the waiting groups is the model's choice 28. -/
def Obligations.HandoverAccepted : Prop :=
  ∀ (s : State) (b : WriteBurst) (k : Nat) (tag : Byte), CommandGrant s b (.context k) 3 tag →
    let g := s.written b
    let t := (s.ctx k).cfg.outSlot
    (s.ctx k).state = .active → (s.ctx k).cfg.downlink = true → k ∈ s.claimList t → (s.claimList t).Nodup →
    exec (.ctxHandover b) s = .next { g.withStatus (descriptor k + 4) .done tag 3 1 with
      tsm := { s.tsm with claims := s.tsm.claims.set t (k :: (s.claimList t).erase k) } }

/-- R103, R85, R95, R124, R179: an accepted CLOSE leaves the maps, withdraws the context's pending jobs, releases its playout
queue, the LOW flag being examined after each entry, and answers DONE with a CONTEXT_CLOSED notice where no job runs, else
IN_PROGRESS. That the close echo is stored at every accepted CLOSE is the model's reading 25, and that the entries leave
nearest first its choice 13. Where the burst deletes a queued entry, that the CLOSE comes before the examination of the
waiting groups is the model's choice 28. -/
def Obligations.CloseAccepted : Prop :=
  ([Result.done, .inProgress].map Result.code = [0x01, 0x02]) ∧
  ∀ (s : State) (b : WriteBurst) (k : Nat) (tag : Byte), CommandGrant s b (.context k) 4 tag → k < s.ctxs.length →
    let g := s.written b
    let c := s.ctx k
    c.state = .active →
    ∃ v, g.poolPasses v (countsAfter s.pool.free c.playout) ∧
      v.pool.free = s.pool.free + (c.playout.map (·.blocks)).sum ∧
      let u : State := { v with
        ctxs := s.ctxs.set k
          { c with state := if c.runningJobs = 0 then .closed else .closing, closeTag := tag, closeCode := 4, playout := [] }
        tsm :=
          { taps := if c.cfg.uplink then s.tsm.taps.set c.cfg.inSlot ((s.tapSet c.cfg.inSlot).filter (· != k))
              else s.tsm.taps
            claims := if c.cfg.downlink then s.tsm.claims.set c.cfg.outSlot ((s.claimList c.cfg.outSlot).filter (· != k))
              else s.tsm.claims }
        tags := s.tags.filter fun p => p.2 != k
        engine := { s.engine with jobs := s.engine.jobs.filter fun j => decide (j.ctx ≠ k) } }
      (c.runningJobs = 0 → exec (.ctxClose b) s = .next
        ((u.withStatus (descriptor k + 4) .done tag 4 0).placeNotice .contextClosed k 0 (List.replicate 9 0))) ∧
      (c.runningJobs ≠ 0 → exec (.ctxClose b) s = .next (u.withStatus (descriptor k + 4) .inProgress tag 4 2))

/-- R106, R95: REPORT in ACTIVE or CLOSING requests its notice with the nine counters, sets them to 0 and answers DONE. Where
the burst deletes a queued entry, that the counters are taken before the examination of the waiting groups, and so before the
SENT of a group it makes room for, is the model's choice 28. -/
def Obligations.ReportAccepted : Prop :=
  ∀ (s : State) (b : WriteBurst) (k : Nat) (tag : Byte), CommandGrant s b (.context k) 5 tag →
    let c := s.ctx k
    let n := c.counters
    c.state ≠ .closed →
    let u := (s.written b).placeNotice .report k 0 [n.encoded, n.sent, n.uplinkMissed, n.egressDropped, n.received, n.late,
      n.rejected, n.concealed, n.slips]
    exec (.ctxReport b) s = .next
      ({ u with ctxs := s.ctxs.set k { c with
          counters := { encoded := 0, sent := 0, uplinkMissed := 0, egressDropped := 0, received := 0, late := 0,
                        rejected := 0, concealed := 0, slips := 0 } } }.withStatus
        (descriptor k + 4) .done tag 5 (match c.state with | .closed => 0 | .active => 1 | .closing => 2))

/-- R74: which command word a write includes byte 0 of. R92: a context command of context k, whatever its code, changes no
other context's record or membership in a tap set or claim list, no clock, no window and no received byte of memory but those
its write enables. That the effect is the same under whichever context row the write is sent is the model's choice 5, and that
the waiting groups a deletion makes room for are examined only after it its choice 28. -/
def Obligations.OtherContextsKept : Prop :=
  (∀ offs : List (Nat × Byte),
    let word (off : Nat) := off = 0 ∨ ∃ k < 384, off = 0x400 + 0x40 * k
    ((∀ c ∈ offs, ¬ word c.1) → includedCommand offs = none) ∧
      ∀ c ∈ offs, (∀ d ∈ offs, word d.1 → d.1 = c.1) →
        (c.1 = 0 → includedCommand offs = some .control) ∧
          ∀ k < 384, c.1 = 0x400 + 0x40 * k → includedCommand offs = some (.context k)) ∧
  (∀ (s : State) (cells : List (Nat × Byte)),
    s.controlCells cells = cells.map fun c => (c.1 - s.part.cbBase.toNat * 32768, c.2)) ∧
  ∀ (s : State) (b : WriteBurst) (k : Nat) (code tag : Byte), CommandGrant s b (.context k) code tag →
    ∀ i ∈ [Instr.ctxOpen b, .ctxModify b, .ctxHandover b, .ctxClose b, .ctxReport b, .ctxBadCommand b],
      ∃ t, exec i s = .next t ∧ (∀ j, j ≠ k → t.ctx j = s.ctx j) ∧ t.clocks = s.clocks ∧ t.part = s.part ∧
        t.shadow = (s.written b).shadow ∧ t.ffu = s.ffu ∧ t.erw = s.erw ∧ t.engine.running = s.engine.running ∧
        t.pwq.entries = (s.written b).pwq.entries ∧ s.pwq.waiting <+: t.pwq.waiting ∧
        (∀ ts, ∀ j, j ≠ k → (j ∈ t.tapSet ts ↔ j ∈ s.tapSet ts) ∧ (j ∈ t.claimList ts ↔ j ∈ s.claimList ts)) ∧
        (∀ p : Nat × Nat, p.2 ≠ k → (p ∈ t.tags ↔ p ∈ s.tags)) ∧
        (∀ j : Job, j.ctx ≠ k → (j ∈ t.engine.jobs ↔ j ∈ s.engine.jobs)) ∧
        ∀ a, cellAt (burstCells b) a = none → Memory.get t.mem a = Memory.get s.mem a

/-! ### Control commands -/

/-- R174, R175, R178, 12.2: a START that passes every check, with each layout field read at its place in the control block's
shadow. That the index reset group goes behind notice groups still waiting is R157's and the model's reading 29 of R167. Where
the burst deletes a queued entry, that the START comes before the examination of the waiting groups is the model's choice 28.
-/
def Obligations.StartAccepted : Prop :=
  ∀ (s : State) (b : WriteBurst) (tag : Byte), CommandGrant s b .control 1 tag → s.part.state = .idle →
    let g := s.written b
    let byteAt off := (Memory.get g.shadow off).toNat
    let word off := byteAt off + 256 * byteAt (off + 1)
    let base off := word off + 65536 * byteAt (off + 2) + 16777216 * (byteAt (off + 3) % 16)
    let w : Windows :=
      { ingressBase := base 0x08, egressBase := base 0x0C, slots := word 0x10, frames := byteAt 0x12
        mobInBase := base 0x14, ni := word 0x18, mobOutBase := base 0x1C, ne := word 0x20
        noticeBase := base 0x24, nn := word 0x28 }
    let rings := [(w.ingressBase, w.frames * w.slots), (w.egressBase, w.frames * w.slots), (w.mobInBase, w.ni * 128),
      (w.mobOutBase, w.ne * 128), (w.noticeBase, w.nn * 32)]
    let zero off : QWord := { addr := s.controlBase + off, lanes := fullWord 0 0 0 0 }
    let reset : Group := .indexReset [zero 0x30, zero 0x34, zero 0x38, zero 0x3C]
    (w.slots % 32 = 0 ∧ 32 ≤ w.slots ∧ w.slots ≤ 512 ∧ 8 ≤ w.frames ∧ w.frames ≤ 64 ∧ 2 ≤ w.ni ∧ w.ni ≤ 4096 ∧
      2 ≤ w.ne ∧ w.ne ≤ 4096 ∧ 2 ≤ w.nn ∧ w.nn ≤ 4096) →
    (w.ingressBase % 32 = 0 ∧ w.egressBase % 32 = 0 ∧ w.noticeBase % 32 = 0 ∧ w.mobInBase % 128 = 0 ∧
      w.mobOutBase % 128 = 0) →
    (∀ r ∈ rings, r.1 + r.2 ≤ 16777216 * 2 ^ min s.part.memSize.toNat 4) →
    ((s.controlBase, 32768) :: rings).Pairwise (fun x y => x.1 + x.2 ≤ y.1 ∨ y.1 + y.2 ≤ x.1) →
    exec (.ctlStart b) s = .next { g with
      part := { s.part with
        state := .running, windows := some w, trigger := max 1 (byteAt 0x2C), quietLimit := byteAt 0x2D
        readyMode := if byteAt 0x2E % 2 = 1 then .burst else .level
        threshold := min (w.ne - 1) (max 1 (byteAt 0x2F)) }
      clocks := { inPos := 0, inFrame := 0, frameNo := 0, outPos := 0, outFrame := 0 }
      erw := { producer := 0, waiting := s.erw.waiting, consumer := 0, latch := false, ready := false }
      ntw := { producer := 0, consumer := 0, waiting := s.ntw.waiting, lost := false, timer := 0, latch := false,
               event := false }
      pwq := { g.pwq with waiting :=
        s.pwq.waiting ++ [reset, .status { addr := s.controlBase + 4, lanes := fullWord 1 tag 1 1 }] } }

/-- R173, R174, R176, R179: the refusals of control commands, each of which changes no state beyond its status word. Where the
burst deletes a queued entry, that STOP looks at the contexts before the examination of the waiting groups, which could close
the last CLOSING context, is the model's choice 28. -/
def Obligations.ControlRefusals : Prop :=
  ([Result.badCommand, .badState, .contextsOpen, .badLayout].map Result.code = [0x10, 0x11, 0x17, 0x18]) ∧
  ∀ (s : State) (b : WriteBurst) (code tag : Byte), CommandGrant s b .control code tag →
    let g := s.written b
    let w := readWindows g.shadow
    let answer r := Host.Outcome.next (φ := Fault) (ρ := Refusal)
      (g.withStatus 4 r tag code (match s.part.state with | .idle => 0 | .running => 1))
    let rings := [(w.ingressBase, w.frames * w.slots), (w.egressBase, w.frames * w.slots), (w.mobInBase, w.ni * 128),
      (w.mobOutBase, w.ne * 128), (w.noticeBase, w.nn * 32)]
    (code = 1 →
      (s.part.state = .running → exec (.ctlStart b) s = answer .badState) ∧
      (s.part.state = .idle →
        ((w.slots % 32 ≠ 0 ∨ w.slots < 32 ∨ 512 < w.slots ∨ w.frames < 8 ∨ 64 < w.frames ∨ w.ni < 2 ∨ 4096 < w.ni ∨
            w.ne < 2 ∨ 4096 < w.ne ∨ w.nn < 2 ∨ 4096 < w.nn) ∨
          (w.ingressBase % 32 ≠ 0 ∨ w.egressBase % 32 ≠ 0 ∨ w.noticeBase % 32 ≠ 0 ∨ w.mobInBase % 128 ≠ 0 ∨
            w.mobOutBase % 128 ≠ 0) ∨
          (∃ r ∈ rings, 16777216 * 2 ^ min s.part.memSize.toNat 4 < r.1 + r.2) ∨
          ¬ ((s.controlBase, 32768) :: rings).Pairwise (fun x y => x.1 + x.2 ≤ y.1 ∨ y.1 + y.2 ≤ x.1)) →
        exec (.ctlStart b) s = answer .badLayout)) ∧
    (code = 2 →
      (s.part.state = .idle → exec (.ctlStop b) s = answer .badState) ∧
      (s.part.state = .running → (∃ c ∈ s.ctxs, c.state ≠ .closed) → exec (.ctlStop b) s = answer .contextsOpen)) ∧
    (4 ≤ code.toNat → exec (.ctlBadCommand b) s = answer .badCommand)

/-- R176, R177, R122, R109, R145, R157: an accepted STOP, and CLEAR in either state. Where the CLEAR's burst deletes a queued
entry, that CLEAR withdraws the egress frame groups before the examination of the waiting groups is the model's choice 28. -/
def Obligations.StopAndClear : Prop :=
  (∀ (s : State) (b : WriteBurst) (tag : Byte), CommandGrant s b .control 2 tag → s.part.state = .running →
      (∀ c ∈ s.ctxs, c.state = .closed) →
      let g := (s.written b).withStatus 4 .done tag 2 0
      exec (.ctlStop b) s = .next { g with
        part := { s.part with state := .idle }
        ffu := { queue := [], buffer := none, overrun := false }
        erw := { s.erw with ready := false }
        ntw := { s.ntw with event := false } }) ∧
    ∀ (s : State) (b : WriteBurst) (tag : Byte), CommandGrant s b .control 3 tag →
      let g := s.written b
      exec (.ctlClear b) s = .next { g with
        part := { s.part with state := .idle }
        ffu := { queue := [], buffer := none, overrun := false }
        engine := { jobs := [], running := [] }
        tsm := { taps := List.replicate 512 [], claims := List.replicate 512 [] }
        tags := []
        pool := { free := 4096, low := false }
        ctxs := s.ctxs.map fun c => { c with
          state := .closed, runningJobs := 0, playout := []
          counters := { encoded := 0, sent := 0, uplinkMissed := 0, egressDropped := 0, received := 0, late := 0,
                        rejected := 0, concealed := 0, slips := 0 }
          edges := { uplinkMissed := false, egressFull := false, slip := false, rejected := false } }
        erw := { s.erw with waiting := 0, ready := false }
        ntw := { s.ntw with event := false }
        pwq := { g.pwq with waiting := s.pwq.waiting.filter (fun w => !w.isEgress) ++
          [.status { addr := s.controlBase + 4, lanes := fullWord 1 tag 3 0 }] } }

/-! ### Grants to the part's own claimants -/

/-- R153, R148, R59: a drain writes the oldest word's enabled bytes to memory and takes the entry out of the queue; no byte in
the fitted memory reads differently for it. The fitted memory's end: the model's choice 9. -/
def Obligations.DrainOldestWord : Prop :=
  ∀ (s : State) (w : QWord) (rest : List QWord), s.queueTurn → s.memoryLaw → s.pwq.entries = w :: rest →
    ∃ t, exec .drain s = .next t ∧
      t = { s with mem := t.mem, pwq := { s.pwq with entries := rest }, mpa := { s.mpa with drainCount := 0 } } ∧
      (∀ a < s.fitted, Memory.get t.mem a = (w.byteAt a).getD (Memory.get s.mem a) ∧ t.readByte a = s.readByte a) ∧
      (∀ a, w.byteAt a = none ∨ s.fitted ≤ a → Memory.get t.mem a = Memory.get s.mem a)

/-- R149: the five steps of the arbiter's choice. -/
def Obligations.ArbiterOrder : Prop :=
  ∀ (s : State) (master : Bool),
    let long := 32 ≤ s.pwq.entries.length ∧ 4 ≤ s.mpa.drainCount
    let starved := s.ffu.buffer ≠ none ∧ 8 ≤ s.mpa.fetchCount
    let admitted := master = true ∧ s.pwq.waiting.countP Group.isStatusOrIndex < 15
    (long → s.portChoice master = some .pwq) ∧
      (¬ long → starved → s.portChoice master = some .ffu) ∧
      (¬ long → ¬ starved → admitted → s.portChoice master = some .master) ∧
      (¬ long → ¬ starved → ¬ admitted → s.pwq.entries ≠ [] → s.portChoice master = some .pwq) ∧
      (¬ long → ¬ starved → ¬ admitted → s.pwq.entries = [] → s.ffu.buffer ≠ none → s.portChoice master = some .ffu) ∧
      (¬ long → ¬ starved → ¬ admitted → s.pwq.entries = [] → s.ffu.buffer = none → s.portChoice master = none)

/-- R115: a granted header read. A fetch that ends leaves the queue unless it is STALE, and the oldest entry left is begun; a
frame of impossible length is disposed of at this grant. The count of open reads beyond the fitted memory: the model's choices 9
and 26. -/
def Obligations.HeaderReadGrant : Prop :=
  ∀ (s : State) (f : Fetch), s.fetchTurn → s.ffu.buffer = some f → f.phase = .header →
    let a := s.win.mobInBase + 128 * f.slot
    let length := (s.readByte a).toNat
    let tag := (s.readByte (a + 1)).toNat + 256 * (s.readByte (a + 2)).toNat
    let valid := (s.readByte (a + 3)).getLsbD 7
    let u : State := { s with
      mpa := { s.mpa with fetchCount := 0 }
      openReads := if a + 4 ≤ s.fitted then s.openReads else s.openReads + 1 }
    let left := if f.stale then s.ffu.queue else s.ffu.queue.tail
    let done : State := { u with ffu := match left with
      | [] => { queue := [], buffer := none, overrun := false }
      | e :: rest =>
        { queue := { e with state := .reading } :: rest
          buffer := some { slot := e.slot, stale := false, phase := .header }, overrun := s.ffu.overrun } }
    exec .fetchHeaderRead s = .next
      (if valid = false then done
       else if 3 ≤ length ∧ length ≤ 84 then
         { u with ffu := { s.ffu with buffer := some { f with phase := .body length tag 1 [] } } }
       else if f.stale then done
       else done.dispose tag length [])

/-- R116, R117: a granted body burst reads on to the end of its 32-byte block or of the frame's words; the last one ends the
fetch, whose frame is disposed of unless it is STALE. The count of open reads beyond the fitted memory: the model's choices 9
and 26. -/
def Obligations.BodyReadGrant : Prop :=
  ∀ (s : State) (f : Fetch) (length tag next : Nat) (got : List Byte), s.fetchTurn → s.ffu.buffer = some f →
    f.phase = .body length tag next got →
    let a := s.win.mobInBase + 128 * f.slot + 4 * next
    let words := (4 + length + 3) / 4
    let stop := min (8 * (next / 8) + 8) words
    let bytes := got ++ (List.range (4 * (stop - next))).map fun i => s.readByte (a + i)
    let u : State := { s with
      mpa := { s.mpa with fetchCount := 0 }
      openReads := if a + 4 * (stop - next) ≤ s.fitted then s.openReads else s.openReads + 1 }
    let left := if f.stale then s.ffu.queue else s.ffu.queue.tail
    let done : State := { u with ffu := match left with
      | [] => { queue := [], buffer := none, overrun := false }
      | e :: rest =>
        { queue := { e with state := .reading } :: rest
          buffer := some { slot := e.slot, stale := false, phase := .header }, overrun := s.ffu.overrun } }
    exec .fetchBodyRead s = .next
      (if stop < words then { u with ffu := { s.ffu with buffer := some { f with phase := .body length tag stop bytes } } }
       else if f.stale then done
       else done.dispose tag length (bytes.take length))

/-- R118, R119, R120: the disposal of a frame, up to its offer to the playout queue. -/
def Obligations.FrameDisposal : Prop :=
  ∀ (s : State) (tag length : Nat) (frame : List Byte),
    let code := (frame.getD 1 0).toNat % 8
    let total := match code with | 1 => 3 | 2 => 44 | 3 => 64 | _ => 84
    let need := match code with | 1 => 1 | 2 => 2 | 3 => 2 | _ => 3
    let type : FrameType := match code with | 1 => .sid | 2 => .a2 | 3 => .a3 | _ => .a4
    let malformed := length < 3 ∨ 84 < length ∨ code = 0 ∨ 5 ≤ code ∨ length ≠ total
    s.lookupTag tag = (s.tags.find? fun p => decide (p.1 = tag)).map (·.2) ∧
    ((∀ p ∈ s.tags, p.1 ≠ tag) → s.dispose tag length frame = s) ∧
    ∀ k, s.lookupTag tag = some k → k < s.ctxs.length →
      let c := s.ctx k
      let received := { c.counters with received := min (c.counters.received + 1) 65535 }
      let refused (detail : Nat) := fun t : State =>
        t.ctx k = { c with counters := { received with rejected := min (c.counters.rejected + 1) 65535 }
                           edges := { c.edges with rejected := true } } ∧
          (∀ j, j ≠ k → t.ctx j = s.ctx j) ∧ t.pool = s.pool ∧ t.tags = s.tags ∧ t.ffu = s.ffu ∧
          (c.edges.rejected = true → t.pwq = s.pwq ∧ t.ntw = s.ntw) ∧
          (c.edges.rejected = false →
            t.pwq = (s.placeNotice .rejected k detail (List.replicate 9 0)).pwq ∧
              t.ntw = (s.placeNotice .rejected k detail (List.replicate 9 0)).ntw)
      (malformed → refused 1 (s.dispose tag length frame)) ∧
      (¬ malformed → s.pool.free < need → refused 2 (s.dispose tag length frame)) ∧
      (¬ malformed → need ≤ s.pool.free →
        ∃ e : PlayEntry, e.seq = frame.getD 0 0 ∧ e.type = type ∧ e.request = (frame.getD 1 0).toNat / 16 % 4 ∧
          e.onset = (frame.getD 1 0).getLsbD 6 ∧ e.body = frame.drop 2 ∧ e.blocks = need ∧
          s.dispose tag length frame = { s with ctxs := s.ctxs.set k { c with counters := received } }.offer k e)

/-- R126 to R129, R123, R124: what becomes of a frame offered to a playout queue that keeps R125's law. That the entries a
catch-up releases leave nearest first is the model's choice 13. -/
def Obligations.PlayoutArrival : Prop :=
  ∀ (s : State) (k : Nat) (e : PlayEntry), k < s.ctxs.length →
    let c := s.ctx k
    let t := s.offer k e
    let q := c.cfg.q
    playoutOrdered q c.expected c.playout → 2 ≤ q → q ≤ 8 → c.cfg.d < q →
    (∀ j, j ≠ k → t.ctx j = s.ctx j) ∧ t = { s with ctxs := t.ctxs, pool := t.pool, pwq := t.pwq, ntw := t.ntw } ∧
      playoutOrdered q (t.ctx k).expected (t.ctx k).playout ∧
      (c.expected = none →
        t.ctx k = { c with
          expected := some (e.seq - BitVec.ofNat 8 c.cfg.d), playout := [e], edges := { c.edges with rejected := false } } ∧
        s.poolBecomes t (s.pool.free - e.blocks)) ∧
      ∀ x, c.expected = some x →
        let dist := distance x e.seq
        ((128 ≤ dist ∨ ∃ o ∈ c.playout, o.seq = e.seq) →
          t = { s with
            ctxs := s.ctxs.set k { c with counters := { c.counters with late := min (c.counters.late + 1) 65535 } } }) ∧
        ((∀ o ∈ c.playout, o.seq ≠ e.seq) → dist < q →
          t.ctx k = { c with playout := (t.ctx k).playout, edges := { c.edges with rejected := false } } ∧
            (∀ o, o ∈ (t.ctx k).playout ↔ o = e ∨ o ∈ c.playout) ∧ s.poolBecomes t (s.pool.free - e.blocks)) ∧
        (q ≤ dist → dist < 128 →
          let released := c.playout.filter fun o => decide (distance x o.seq < dist + 1 - q)
          t.ctx k = { c with
            expected := some (e.seq - BitVec.ofNat 8 (q - 1)), playout := (t.ctx k).playout
            counters := if released = [] then c.counters
              else { c.counters with late := min (c.counters.late + released.length) 65535 }
            edges := { c.edges with rejected := false } } ∧
          (∀ o, o ∈ (t.ctx k).playout ↔ o = e ∨ (o ∈ c.playout ∧ o ∉ released)) ∧
          t.pool.free = s.pool.free + (released.map (·.blocks)).sum - e.blocks ∧
          ∃ u, s.poolPasses u (countsAfter s.pool.free released ++ [s.pool.free + (released.map (·.blocks)).sum - e.blocks]) ∧
            t.pool = u.pool ∧ t.ntw = u.ntw ∧ t.pwq = u.pwq)

/-! ### The conversion engine -/

/-- R133, R134: the job a free lane takes is the first eligible one by class, slack, kind and context number; none is taken
only where no lane is free or no eligible job is pending. -/
def Obligations.JobOrder : Prop :=
  ∀ s : State,
    let slack (j : Job) : Nat := match j.kind with
      | .encode => 160 - (s.clocks.inPos + 160 - 20 * ((s.ctx j.ctx).cfg.inSlot % 8)) % 160
      | .decode => 160 - (s.clocks.outPos + 160 - 20 * ((s.ctx j.ctx).cfg.outSlot % 8)) % 160
    let rank (j : Job) : Nat := match (s.ctx j.ctx).cfg.priority with | .high => 0 | .normal => 1
    let kind (j : Job) : Nat := match j.kind with | .decode => 0 | .encode => 1
    let eligible (j : Job) : Prop := j.kind = .decode ∨ ∀ r ∈ s.engine.running, r.job ≠ j
    (∀ j, 1 ≤ slack j ∧ slack j ≤ 160) ∧
      (∀ j, s.chosenJob = some j → s.engine.running.length < 4 ∧ j ∈ s.engine.jobs ∧ eligible j ∧
        ∀ i ∈ s.engine.jobs, eligible i → i ≠ j →
          rank j < rank i ∨ (rank j = rank i ∧ (slack j < slack i ∨ (slack j = slack i ∧
            (kind j < kind i ∨ (kind j = kind i ∧ j.ctx < i.ctx)))))) ∧
      (s.chosenJob = none → 4 ≤ s.engine.running.length ∨ ∀ j ∈ s.engine.jobs, ¬ eligible j) ∧
      (s.orderRests → ¬ s.timeoutMet → ∀ j, s.dueStep = some (.start j) ↔ s.chosenJob = some j)

/-- R135, R37, R124: the start of an encode job and its copies, and the mode it decides from the latest request received and the
allowed set. -/
def Obligations.EncodeJobStart : Prop :=
  (∀ (s : State) (k : Nat), k < s.ctxs.length → s.dueStep = some (.start { ctx := k, kind := .encode }) →
      let c := s.ctx k
      let full := if c.fillingOne then c.half0 else c.half1
      exec .encodeJobStart s = .next { s with
        ctxs := s.ctxs.set k { c with runningJobs := c.runningJobs + 1 }
        engine :=
          { jobs := s.engine.jobs.filter fun j => decide (j ≠ { ctx := k, kind := .encode })
            running := s.engine.running ++ [.encode
              { ctx := k, codes := full.codes, seq := full.seq, talkSeen := full.talkSeen
                inLevel := c.inDet.level, outLevel := c.outDet.level, outTalk := c.outDet.talk
                law := c.cfg.law, uplink := c.cfg.uplink, downlink := c.cfg.downlink, dtx := c.cfg.dtx
                hangover := c.cfg.hangover, echoShift := c.cfg.echoShift, margin := c.cfg.margin
                tmplLen := c.cfg.tmplLen, tmpl := c.cfg.tmpl, enc := c.enc
                mode := adapt c.dec.latest c.cfg.allowed
                request := if s.pool.low then 1 else c.cfg.request, waiting := false }] } }) ∧
    ∀ (request : Nat) (allowed : BitVec 3), 1 ≤ request → request ≤ 3 → allowed ≠ 0 →
      let m : Nat := match adapt request allowed with | .a2 => 1 | .a3 => 2 | .a4 => 3
      let inSet n := 1 ≤ n ∧ n ≤ 3 ∧ allowed.getLsbD (n - 1) = true
      inSet m ∧ (inSet request → m = request) ∧
        (¬ inSet request → (∃ n, n < request ∧ inSet n) → m < request ∧ ∀ n, n < request → inSet n → n ≤ m) ∧
        (¬ inSet request → (∀ n, n < request → ¬ inSet n) → ∀ n, inSet n → m ≤ n)

/-- R139, R130, R123, R124: the start of a decode job: the playout queue's answer, the copies and the entry's blocks. -/
def Obligations.DecodeJobStart : Prop :=
  ∀ (s : State) (k : Nat), k < s.ctxs.length → s.dueStep = some (.start { ctx := k, kind := .decode }) →
    let c := s.ctx k
    let taken := match c.expected with
      | none => none
      | some x => c.playout.find? fun e => decide (e.seq = x)
    ∃ t, exec .decodeJobStart s = .next t ∧
      t.ctx k = { c with
        runningJobs := c.runningJobs + 1
        expected := c.expected.map (· + 1)
        playout := match c.expected with
          | none => c.playout
          | some x => c.playout.filter fun e => decide (e.seq ≠ x) } ∧
      (∀ j, j ≠ k → t.ctx j = s.ctx j) ∧
      t.engine =
        { jobs := s.engine.jobs.filter fun j => decide (j ≠ { ctx := k, kind := .decode })
          running := s.engine.running ++ [.decode { ctx := k, taken := taken, p := c.p, law := c.cfg.law, dec := c.dec }] } ∧
      (taken = none → t.pool = s.pool ∧ t.pwq = s.pwq ∧ t.ntw = s.ntw) ∧
      (∀ e, taken = some e → s.poolBecomes t (s.pool.free + e.blocks)) ∧
      t = { s with
        ctxs := t.ctxs, engine := t.engine, pool := t.pool, pwq := { s.pwq with waiting := t.pwq.waiting }
        ntw := { s.ntw with waiting := t.ntw.waiting, lost := t.ntw.lost } }

/-- R137, R138, R160, R161, 12.3, 12.4, R104: the end of work of an encode job: NODATA, a frame dropped for a full ring, a frame
placed, with the bytes of its slot, or the discard for a CLOSING context; R136, R26, R29, R52 to R55: what its work computes for
each kind of frame. -/
def Obligations.EncodeEndOfWork : Prop :=
  (∀ (s : State) (k : Nat),
    (∀ j, s.workingEncode k = some j → Running.encode j ∈ s.engine.running ∧ j.ctx = k ∧ j.waiting = false) ∧
      ∀ j, Running.encode j ∈ s.engine.running → j.ctx = k → j.waiting = false → s.workingEncode k ≠ none) ∧
  (∀ (s : State) (k : Nat) (j : EncodeJob), s.settled → k < s.ctxs.length → s.workingEncode k = some j →
    let c := s.ctx k
    let r := encodeWork j
    let counted := { c.counters with encoded := min (c.counters.encoded + 1) 65535 }
    let freed := s.engine.running.filter fun x => decide (x.job ≠ { ctx := k, kind := .encode })
    let full := (s.erw.producer + s.erw.waiting + 1) % s.win.ne = s.erw.consumer
    (c.state = .active → r.frame = none →
      exec (.encodeEndOfWork k) s = .next { s with
        engine := { s.engine with running := freed }
        ctxs := s.ctxs.set k { c with
          enc := r.enc, counters := counted, runningJobs := c.runningJobs - 1
          edges := { c.edges with uplinkMissed := false } } }) ∧
    (∀ f, c.state = .active → r.frame = some f → full →
      ∃ t, exec (.encodeEndOfWork k) s = .next t ∧
        t = { s with
          engine := { s.engine with running := freed }
          ctxs := s.ctxs.set k { c with
            enc := r.enc, runningJobs := c.runningJobs - 1
            counters := { counted with egressDropped := min (c.counters.egressDropped + 1) 65535 }
            edges := { c.edges with uplinkMissed := false, egressFull := true } }
          pwq := t.pwq, ntw := t.ntw } ∧
        (c.edges.egressFull = true → t.pwq = s.pwq ∧ t.ntw = s.ntw) ∧
        (c.edges.egressFull = false →
          t.pwq = (s.placeNotice .egressFull k f.seq.toNat (List.replicate 9 0)).pwq ∧
            t.ntw = (s.placeNotice .egressFull k f.seq.toNat (List.replicate 9 0)).ntw)) ∧
    (∀ f, c.state = .active → r.frame = some f → ¬ full →
      let type : Nat := match f.type with | .sid => 1 | .a2 => 2 | .a3 => 3 | .a4 => 4
      let content := j.tmpl.take j.tmplLen ++
        f.seq :: BitVec.ofNat 8 (type + 16 * f.request + if f.onset then 64 else 0) :: f.body
      let bytes : List Byte := [BitVec.ofNat 8 content.length, BitVec.ofNat 8 k, BitVec.ofNat 8 (k / 256), 0x80,
        BitVec.ofNat 8 s.clocks.frameNo.toNat, BitVec.ofNat 8 (s.clocks.frameNo.toNat / 256), f.seq, BitVec.ofNat 8 type] ++ content
      let word i : Nat × Lanes :=
        (i, fullWord (bytes.getD (4 * i) 0) (bytes.getD (4 * i + 1) 0) (bytes.getD (4 * i + 2) 0) (bytes.getD (4 * i + 3) 0))
      exec (.encodeEndOfWork k) s = .next { s with
        engine := { s.engine with running := s.engine.running.map fun x => match x with
          | .encode i => if i.ctx = k then .encode { i with waiting := true } else .encode i
          | .decode i => .decode i }
        ctxs := s.ctxs.set k { c with enc := r.enc, counters := counted }
        erw := { s.erw with waiting := s.erw.waiting + 1 }
        pwq := { s.pwq with waiting := s.pwq.waiting ++ [.egress k ((s.erw.producer + s.erw.waiting) % s.win.ne)
          (((List.range ((8 + content.length + 3) / 4 - 1)).map fun i => word (i + 1)) ++ [word 0])] } }) ∧
    (c.state = .closing → c.runningJobs ≠ 1 → c.runningJobs ≠ 0 →
      exec (.encodeEndOfWork k) s = .next { s with
        engine := { s.engine with running := freed }
        ctxs := s.ctxs.set k { c with runningJobs := c.runningJobs - 1 } }) ∧
    (c.state = .closing → c.runningJobs = 1 →
      exec (.encodeEndOfWork k) s = .next (({ s with
        engine := { s.engine with running := freed }
        ctxs := s.ctxs.set k { c with runningJobs := 0, state := .closed } }.withStatus
          (descriptor k + 4) .done c.closeTag c.closeCode 0).placeNotice .contextClosed k 0 (List.replicate 9 0)))) ∧
    ∀ j : EncodeJob,
      let r := encodeWork j
      let xs := frameSamples j
      let stepped : DtxState × FrameKind := match j.enc.dtx, frameActive j with
        | .speech, true => (.speech, .speech false)
        | .hangover _, true => (.speech, .speech false)
        | .silent _, true => (.speech, .speech true)
        | .speech, false => if j.hangover = 0 then (.silent 7, .sid) else (.hangover j.hangover, .speech false)
        | .hangover c, false => if c = 0 then (.silent 7, .sid) else (.hangover (c - 1), .speech false)
        | .silent n, false => if n = 0 then (.silent 7, .sid) else (.silent (n - 1), .nodata)
      let type : FrameType := match j.mode with | .a2 => .a2 | .a3 => .a3 | .a4 => .a4
      r.enc.dtx = stepped.1 ∧
      (∀ onset, stepped.2 = .speech onset →
        let c := encodeSpeech j.mode (if onset then 0 else j.enc.recon) (if onset then 0 else j.enc.xPrev) xs
        r.frame = some { seq := j.seq, type := type, request := j.request, onset := onset, body := speechBody j.mode c } ∧
        (j.codes.length = 160 → r.enc.recon = c.recons.getD 159 0 ∧ r.enc.xPrev = xs.getD 159 0)) ∧
      (stepped.2 = .sid →
        r.frame = some { seq := j.seq, type := .sid, request := j.request, onset := false
                         body := [BitVec.ofNat 8 (sidLevel xs)] } ∧
        r.enc.recon = j.enc.recon ∧ r.enc.xPrev = j.enc.xPrev) ∧
      (stepped.2 = .nodata → r.frame = none ∧ r.enc.recon = j.enc.recon ∧ r.enc.xPrev = j.enc.xPrev)

/-- R141, R41, R104: the completion of a decode job, for an ACTIVE and for a CLOSING context; R140, R27, R28, R31 to R36: what
its work computes in each case. -/
def Obligations.DecodeJobCompletion : Prop :=
  (∀ (s : State) (k : Nat),
    (∀ j, s.runningDecode k = some j → Running.decode j ∈ s.engine.running ∧ j.ctx = k) ∧
      ∀ j, Running.decode j ∈ s.engine.running → j.ctx = k → s.runningDecode k ≠ none) ∧
  (∀ (s : State) (k : Nat) (j : DecodeJob), s.settled → k < s.ctxs.length → s.runningDecode k = some j →
    let c := s.ctx k
    let r := decodeWork j
    let freed := s.engine.running.filter fun x => decide (x.job ≠ { ctx := k, kind := .decode })
    (c.state = .active →
      exec (.decodeJobCompletion k) s = .next { s with
        engine := { s.engine with running := freed }
        ctxs := s.ctxs.set k { c with
          n := r.codes, dec := r.dec, nReady := true, runningJobs := c.runningJobs - 1
          outDet := r.codes.foldl (fun d code => d.step c.cfg (magnitudeIndex c.cfg.law code)) c.outDet
          counters := if r.concealed then { c.counters with concealed := min (c.counters.concealed + 1) 65535 }
            else c.counters } }) ∧
    (c.state = .closing → c.runningJobs ≠ 1 → c.runningJobs ≠ 0 →
      exec (.decodeJobCompletion k) s = .next { s with
        engine := { s.engine with running := freed }
        ctxs := s.ctxs.set k { c with runningJobs := c.runningJobs - 1 } }) ∧
    (c.state = .closing → c.runningJobs = 1 →
      exec (.decodeJobCompletion k) s = .next (({ s with
        engine := { s.engine with running := freed }
        ctxs := s.ctxs.set k { c with runningJobs := 0, state := .closed } }.withStatus
          (descriptor k + 4) .done c.closeTag c.closeCode 0).placeNotice .contextClosed k 0 (List.replicate 9 0)))) ∧
    ∀ j : DecodeJob,
      let r := decodeWork j
      let d := j.dec
      let latest (e : PlayEntry) : Nat := if e.request = 0 then d.latest else e.request
      let noise (level : Nat) := (List.range 160).map fun i =>
        compress j.law ((genStep^[i + 1] d.gen).toInt * ((4 + level % 4) * 2 ^ (level / 4) : Nat) / 32768)
      (∀ e, j.taken = some e → e.type ≠ .sid →
        let out := decodeSpeech e.type (if e.onset then 0 else d.recon) e.body
        out.length = 160 ∧ r.codes = out.map (compress j.law) ∧ r.concealed = false ∧
          r.dec = { d with recon := out.getLastD 0, loss := 0, state := .normal, latest := latest e }) ∧
      (∀ e, j.taken = some e → e.type = .sid →
        let level := min (e.body.getD 0 0).toNat 47
        r.codes = noise level ∧ r.concealed = false ∧
          r.dec = { d with recon := 0, loss := 0, state := .comfort, comfort := level, gen := genStep^[160] d.gen
                           latest := latest e }) ∧
      (j.taken = none → d.state = .comfort →
        r.codes = noise d.comfort ∧ r.concealed = false ∧ r.dec = { d with gen := genStep^[160] d.gen }) ∧
      (j.taken = none → d.state = .normal → j.p.length = 160 →
        let loss := min (d.loss + 1) 4
        r.codes = (if loss = 4 then List.replicate 160 (silence j.law)
          else j.p.map fun code => compress j.law (expand j.law code / 2)) ∧
        r.concealed = true ∧ r.dec = { d with loss := loss, recon := expand j.law (r.codes.getD 159 0) }) ∧
      (j.taken = none → d.state = .initial →
        r.codes = List.replicate 160 (silence j.law) ∧ r.concealed = false ∧ r.dec = d)

/-! ### Write groups, rings and lines -/

/-- R152, R162, R164, R167, R170: the head of the order of waiting groups is admitted whole, and its requester is told. That
its admission is due whatever timeout or job start is due beside it is the model's choice 2. -/
def Obligations.GroupAdmission : Prop :=
  (∀ (s : State) (g : Group) (rest : List Group), s.pwq.waiting = g :: rest →
    (∀ k slot ws, g = .egress k slot ws → (s.ctx k).state ≠ .closing) → s.pwq.entries.length + g.size ≤ 64 →
    s.dueStep = some .admission) ∧
  ∀ (s : State) (g : Group) (rest : List Group), s.dueStep = some .admission → s.pwq.waiting = g :: rest →
    s.pwq.entries.length + g.size ≤ 64 ∧
    ∃ t, exec .groupAdmission s = .next t ∧ t.pwq.waiting = rest ∧ s.pwq.entries <+: t.pwq.entries ∧
      t.pwq.entries.length = s.pwq.entries.length + g.size ∧
      (∀ w, g = .status w →
        t = { s with pwq := { entries := s.pwq.entries ++ [w], waiting := rest } }) ∧
      (∀ ws, g = .indexReset ws →
        t = { s with pwq := { entries := s.pwq.entries ++ ws, waiting := rest } }) ∧
      (∀ ws, g = .notice ws →
        let producer := (s.ntw.producer + 1) % s.win.nn
        t = { s with
          pwq := { entries := s.pwq.entries ++ ws, waiting := rest }
          ntw := { s.ntw with
            producer := producer, waiting := s.ntw.waiting - 1, timer := 0
            event := decide (s.part.state = .running) &&
              (decide (s.part.trigger ≤ (producer + s.win.nn - s.ntw.consumer) % s.win.nn) || s.ntw.latch) } }) ∧
      (∀ k slot ws, g = .egress k slot ws → k < s.ctxs.length → (s.ctx k).state = .active →
        let c := s.ctx k
        let producer := (s.erw.producer + 1) % s.win.ne
        let count := (producer + s.win.ne - s.erw.consumer) % s.win.ne
        let latch := match s.part.readyMode with
          | .level => s.erw.latch
          | .burst => if s.part.threshold ≤ count then true else if count = 0 then false else s.erw.latch
        t = { s with
          pwq :=
            { entries := s.pwq.entries ++
                (ws.map fun w => { addr := s.win.mobOutBase + 128 * slot + 4 * w.1, lanes := w.2 }) ++
                [{ addr := s.controlBase + 0x30
                   lanes := fullWord (BitVec.ofNat 8 ((slot + 1) % s.win.ne)) (BitVec.ofNat 8 ((slot + 1) % s.win.ne / 256)) 0 0 }]
              waiting := rest }
          ctxs := s.ctxs.set k { c with
            runningJobs := c.runningJobs - 1
            counters := { c.counters with sent := min (c.counters.sent + 1) 65535 }
            edges := { c.edges with egressFull := false, uplinkMissed := false } }
          engine := { s.engine with
            running := s.engine.running.filter fun x => decide (x.job ≠ { ctx := k, kind := .encode }) }
          erw := { s.erw with
            producer := producer, waiting := s.erw.waiting - 1, latch := latch
            ready := match s.part.readyMode with
              | .level => decide (s.part.state = .running) && decide (1 ≤ count)
              | .burst => decide (s.part.state = .running) && latch } })

/-- R152, R162, R104: an egress frame group whose context is CLOSING leaves the head of the order unwritten, every group of the
ring writer behind it moves back by one slot, and its encode job completes. That its discard is due as soon as its context is
CLOSING and no later than the CLOSE's own status request is the model's reading 14 of R152, and that it is due whatever timeout or
job start is due beside it the model's choice 2. -/
def Obligations.GroupDiscard : Prop :=
  (∀ (s : State) (k slot : Nat) (ws : List (Nat × Lanes)) (rest : List Group),
    s.pwq.waiting = .egress k slot ws :: rest → (s.ctx k).state = .closing → s.dueStep = some .discard) ∧
  ∀ (s : State) (k slot : Nat) (ws : List (Nat × Lanes)) (rest : List Group), s.dueStep = some .discard →
    s.pwq.waiting = .egress k slot ws :: rest → k < s.ctxs.length →
    let c := s.ctx k
    let moved := rest.map fun g => match g with
      | .egress i n w => .egress i ((n + s.win.ne - 1) % s.win.ne) w
      | .notice w => .notice w
      | .status w => .status w
      | .indexReset w => .indexReset w
    let u : State := { s with
      pwq := { s.pwq with waiting := moved }
      erw := { s.erw with waiting := s.erw.waiting - 1 }
      engine := { s.engine with
        running := s.engine.running.filter fun x => decide (x.job ≠ { ctx := k, kind := .encode }) } }
    c.state = .closing ∧
      (2 ≤ c.runningJobs →
        exec .groupDiscard s = .next { u with ctxs := s.ctxs.set k { c with runningJobs := c.runningJobs - 1 } }) ∧
      (c.runningJobs = 1 →
        exec .groupDiscard s = .next (({ u with ctxs := s.ctxs.set k { c with runningJobs := 0, state := .closed } }.withStatus
          (descriptor k + 4) .done c.closeTag c.closeCode 0).placeNotice .contextClosed k 0 (List.replicate 9 0)))

/-- R169, R170: the timeout latch is due only where the quiet limit is not 0, the timer has reached it and a notice is
unconsumed, and under these conditions it is due once no group can leave the order; it is then set, and EVENT is asserted while
the part is RUNNING. Its place in the order of due steps is the
model's choice 2. -/
def Obligations.QuietTimeout : Prop :=
  ∀ s : State,
    (s.orderRests → s.timeoutMet → s.dueStep = some .quiet) ∧
    (s.dueStep = some .quiet →
      (s.ntw.latch = false ∧ s.part.quietLimit ≠ 0 ∧ s.part.quietLimit * 8 ≤ s.ntw.timer ∧
        0 < (s.ntw.producer + s.win.nn - s.ntw.consumer) % s.win.nn) ∧
      exec .quietTimeout s = .next { s with
        ntw := { s.ntw with latch := true, event := decide (s.part.state = .running) } })

/-- R165, R166, R167, R182: a notice request is dropped into the lost flag where the ring is full, else its record and the
producer word join the order as one group of nine words; a kind with an edge flag is held back while the flag is set. The
clock values stamped are those after the event's advance, the model's reading 12. -/
def Obligations.NoticeRing : Prop :=
  ([NoticeKind.contextClosed, .report, .uplinkMissed, .egressFull, .slip, .rejected, .poolLow, .poolRecovered,
    .fetchOverrun].map NoticeKind.code = [1, 2, 3, 4, 5, 6, 7, 8, 9]) ∧
  (∀ (s : State) (kind : NoticeKind) (ctx detail : Nat) (counters : List Nat), counters.length = 9 →
    let slot := (s.ntw.producer + s.ntw.waiting) % s.win.nn
    let next := (slot + 1) % s.win.nn
    let full := (s.ntw.producer + s.ntw.waiting + 1) % s.win.nn = s.ntw.consumer
    let t := s.placeNotice kind ctx detail counters
    let low (n : Nat) : Byte := BitVec.ofNat 8 n
    let high (n : Nat) : Byte := BitVec.ofNat 8 (n / 256)
    let pair (m n : Nat) := fullWord (low m) (high m) (low n) (high n)
    let count (i : Nat) := counters.getD i 0
    (full → t = { s with ntw := { s.ntw with lost := true } }) ∧
      (¬ full → t = { s with
        ntw := { s.ntw with lost := false, waiting := s.ntw.waiting + 1 }
        pwq := { s.pwq with waiting := s.pwq.waiting ++ [.notice
          [{ addr := s.win.noticeBase + 32 * slot + 4
             lanes := fullWord (low s.clocks.frameNo.toNat) (high s.clocks.frameNo.toNat) (low s.clocks.inPos) 0 },
           { addr := s.win.noticeBase + 32 * slot + 8, lanes := pair (count 0) (count 1) },
           { addr := s.win.noticeBase + 32 * slot + 12, lanes := pair (count 2) (count 3) },
           { addr := s.win.noticeBase + 32 * slot + 16, lanes := pair (count 4) (count 5) },
           { addr := s.win.noticeBase + 32 * slot + 20, lanes := pair (count 6) (count 7) },
           { addr := s.win.noticeBase + 32 * slot + 24, lanes := pair (count 8) detail },
           { addr := s.win.noticeBase + 32 * slot + 28, lanes := fullWord 0 0 0 0 },
           { addr := s.win.noticeBase + 32 * slot
             lanes := fullWord kind.code (if s.ntw.lost then 1 else 0) (low ctx) (high ctx) },
           { addr := s.controlBase + 0x38, lanes := fullWord (low next) (high next) 0 0 }]] } })) ∧
    ∀ (s : State) (k detail : Nat), k < s.ctxs.length →
      let e := (s.ctx k).edges
      let flagged (edges : Edges) := { s with ctxs := s.ctxs.set k { s.ctx k with edges := edges } }
      let zeros := List.replicate 9 0
      (s.noticeUplinkMissed k detail = if e.uplinkMissed then s
        else (flagged { e with uplinkMissed := true }).placeNotice .uplinkMissed k detail zeros) ∧
      (s.noticeEgressFull k detail = if e.egressFull then s
        else (flagged { e with egressFull := true }).placeNotice .egressFull k detail zeros) ∧
      (s.noticeSlip k detail = if e.slip then s
        else (flagged { e with slip := true }).placeNotice .slip k detail zeros) ∧
      (s.noticeRejected k detail = if e.rejected then s
        else (flagged { e with rejected := true }).placeNotice .rejected k detail zeros)

/-! ### The coder, the detectors and the companding laws -/

/-- R27, R17, R26, R16: whenever the decoder's recon_prev equals the encoder's at the start of a frame, its 160 outputs from
the frame's body are the encoder's 160 reconstructions, in every mode and for any inputs; the body holds the step indices and
residual codes at their places in 12.3; and from any body of its type's length each output is the prediction plus code times
R19's step. -/
def Obligations.DecoderMirrorsEncoder : Prop :=
  (∀ (mode : Mode) (recon xPrev : Int) (xs : List Int), xs.length = 160 →
    let c := encodeSpeech mode recon xPrev xs
    let body := speechBody mode c
    let b : Nat := match mode with | .a2 => 2 | .a3 => 3 | .a4 => 4
    let type : FrameType := match mode with | .a2 => .a2 | .a3 => .a3 | .a4 => .a4
    body.length = 2 + 20 * b ∧ c.recons.length = 160 ∧ decodeSpeech type recon body = c.recons ∧
      (∀ j < 4, stepField body j = c.steps.getD j 0) ∧ ∀ i < 160, codeField b body i = c.codes.getD i 0) ∧
    ∀ (type : FrameType) (recon : Int) (body : List Byte),
      let b : Nat := match type with | .sid => 0 | .a2 => 2 | .a3 => 3 | .a4 => 4
      let out := decodeSpeech type recon body
      type ≠ .sid → body.length = 2 + 20 * b → out.length = 160 ∧ ∀ i < 160,
        let before : Int := if i = 0 then recon else out.getD (i - 1) 0
        let delta : Int :=
          [16, 23, 32, 45, 64, 91, 128, 181, 256, 362, 512, 724, 1024, 1448, 2048, 2896].getD (stepField body (i / 40)) 0
        out.getD i 0 = max (-32768) (min 32767 (7 * before / 8 + codeField b body i * delta))

/-- R28, R55, R15, R180: a frame that an encode job sends with the onset flag, received and decoded by any decoder in any state,
gives the encoder's reconstructions from memories of 0. -/
def Obligations.OnsetFrameDecodes : Prop :=
  ∀ (j : EncodeJob) (f : Frame) (d : DecFields) (law : Law) (p : List Byte) (ctx : Nat),
    j.codes.length = 160 → j.request ≤ 3 → (encodeWork j).frame = some f → f.onset = true →
    f.bytes.length = f.type.bytes ∧ frameForm f.bytes.length f.bytes = some f.type ∧
      let e := readEntry f.type f.bytes
      e.seq = j.seq ∧ e.request = j.request ∧ e.onset = true ∧ e.body = f.body ∧
        let out := (encodeSpeech j.mode 0 0 (frameSamples j)).recons
        let r := decodeWork { ctx := ctx, taken := some e, p := p, law := law, dec := d }
        r.codes = out.map (compress law) ∧ r.dec.recon = out.getLastD 0 ∧ r.dec.recon = (encodeWork j).enc.recon ∧
          r.dec.state = .normal ∧ r.dec.loss = 0 ∧ r.dec.comfort = d.comfort ∧ r.dec.gen = d.gen ∧ r.concealed = false

/-- R24, with R19's table and R16's levels: the step index of each sub-block is the smallest whose step covers the largest
open-loop residual, or 15. -/
def Obligations.StepIndexChoice : Prop :=
  ∀ (mode : Mode) (recon xPrev : Int) (xs : List Int), xs.length = 160 → Linear xPrev → (∀ x ∈ xs, Linear x) →
    let steps := (encodeSpeech mode recon xPrev xs).steps
    let size (q : Nat) : Nat :=
      [16, 23, 32, 45, 64, 91, 128, 181, 256, 362, 512, 724, 1024, 1448, 2048, 2896].getD q 0
    let l : Nat := match mode with | .a2 => 2 | .a3 => 4 | .a4 => 8
    steps.length = 4 ∧ ∀ b < 4,
      let before (i : Nat) : Int := if i = 0 then xPrev else xs.getD (i - 1) 0
      let residual (i : Nat) : Nat := (xs.getD i 0 - 7 * before i / 8).natAbs
      let q := steps.getD b 0
      ∃ peak : Nat, peak ≤ 61439 ∧ (∃ i < 40, residual (40 * b + i) = peak) ∧ (∀ i < 40, residual (40 * b + i) ≤ peak) ∧
        q ≤ 15 ∧ (peak ≤ size q * (l - 1) ∨ q = 15) ∧ ∀ p < q, size p * (l - 1) < peak

/-- R25, with R19's table and R16's levels: each sample is quantised to the nearest level that can be sent, an exact half
upward, and reconstructed from the level that is sent. -/
def Obligations.SampleQuantised : Prop :=
  ∀ (mode : Mode) (recon xPrev : Int) (xs : List Int), xs.length = 160 → Linear recon → (∀ x ∈ xs, Linear x) →
    let c := encodeSpeech mode recon xPrev xs
    c.codes.length = 160 ∧ c.recons.length = 160 ∧ ∀ i < 160,
      let before : Int := if i = 0 then recon else c.recons.getD (i - 1) 0
      let delta : Int := [16, 23, 32, 45, 64, 91, 128, 181, 256, 362, 512, 724, 1024, 1448, 2048, 2896].getD (c.steps.getD (i / 40) 0) 0
      let p : Int := 7 * before / 8
      let e : Int := xs.getD i 0 - p
      let k : Int := c.codes.getD i 0
      let l : Int := match mode with | .a2 => 2 | .a3 => 4 | .a4 => 8
      Linear before ∧ -61439 ≤ e ∧ e ≤ 61439 ∧ -l ≤ k ∧ k ≤ l - 1 ∧
        (-l < k → 2 * (k * delta) ≤ 2 * e + delta) ∧ (k < l - 1 → 2 * e + delta < 2 * (k * delta) + 2 * delta) ∧
        c.recons.getD i 0 = max (-32768) (min 32767 (p + k * delta))

/-- R10, R5, R8, R4, R7, R3: the code of x names the interval of R5's or R8's table that holds the magnitude of x, and its
expansion is that interval's reconstruction value, itself in the interval; compression keeps order; both round trips. -/
def Obligations.CompressionTruncates : Prop :=
  (∀ (law : Law) (x : Int), Linear x →
    let b := invert law (compress law x)
    let e := b.toNat / 16 % 8
    let m := b.toNat % 16
    let adjusted := min x.natAbs (largestMagnitude law)
    intervalLow law e m ≤ adjusted ∧ adjusted ≤ intervalHigh law e m ∧
      intervalLow law e m ≤ (expand law (compress law x)).natAbs ∧ (expand law (compress law x)).natAbs ≤ intervalHigh law e m ∧
      (b.getLsbD 7 = true ↔ (match law with | .seg13 => 0 ≤ x | .seg15 => x < 0)) ∧
      expand law (compress law x) = (if x < 0 then -(reconstruction law e m : Int) else reconstruction law e m) ∧
      (x.natAbs ≤ largestMagnitude law ∨ law = .seg13 →
        (expand law (compress law x) - x).natAbs ≤ (if law = .seg13 ∧ e = 0 then 16 else 2 ^ (e + 3)) / 2) ∧
      (largestMagnitude .seg15 < x.natAbs → law = .seg15 →
        expand law (compress law x) = if x < 0 then -32124 else 32124)) ∧
    (∀ (law : Law) (x y : Int), Linear x → Linear y → x ≤ y → expand law (compress law x) ≤ expand law (compress law y)) ∧
    (∀ c : Byte, compress .seg13 (expand .seg13 c) = c) ∧
    ∀ c : Byte, c ≠ 0x7F → compress .seg15 (expand .seg15 c) = c

/-- R6, R9, R11, R12, R13: silence codes, attenuation, and the magnitude index. -/
def Obligations.AttenuationOfCodes : Prop :=
  (silence .seg13 = 0xD5 ∧ expand .seg13 0xD5 = 8 ∧ expand .seg13 0x55 = -8 ∧ silence .seg15 = 0xFF ∧
    expand .seg15 0xFF = 0 ∧ expand .seg15 0x7F = 0) ∧
    (∀ x : Int, (0 ≤ x → x ≤ 7 → compress .seg13 x = 0xD5) ∧ (-7 ≤ x → x ≤ -1 → compress .seg13 x = 0x55) ∧
      (0 ≤ x → x ≤ 3 → compress .seg15 x = 0xFF) ∧ (-3 ≤ x → x ≤ -1 → compress .seg15 x = 0x7F)) ∧
    (∀ (law : Law) (c : Byte), attenuate law 0 c = c ∧ ∀ a, 1 ≤ a → a ≤ 3 →
      let y := expand law c / (2 ^ a : Int)
      attenuate law a c = compress law y ∧ -4032 * 2 ^ (3 - a) ≤ y ∧ y ≤ 4032 * 2 ^ (3 - a) ∧
        attenuate law a (silence law) = silence law ∧ attenuate .seg13 a 0x55 = 0x55 ∧ attenuate .seg15 a 0x7F = 0xFF) ∧
    ∀ (law : Law) (c d : Byte),
      let plain := (match law with | .seg13 => c ^^^ 0x55 | .seg15 => c ^^^ 0xFF).toNat
      magnitudeIndex law c = 16 * (plain / 16 % 8) + plain % 16 ∧ magnitudeIndex law c = plain % 128 ∧
        magnitudeIndex law c ≤ 127 ∧ magnitudeIndex law (c ^^^ 0x80) = magnitudeIndex law c ∧
        (magnitudeIndex law c < magnitudeIndex law d → (expand law c).natAbs < (expand law d).natAbs) ∧
        (magnitudeIndex law c = magnitudeIndex law d → (expand law c).natAbs = (expand law d).natAbs)

/-- R43, R44, R45: one step of a detector, part by part, and the bounds it keeps. -/
def Obligations.DetectorStep : Prop :=
  ∀ (cfg : Captured) (d : Detector) (u : Nat), u ≤ 127 → d.bounded →
    let t := d.step cfg u
    let level := 65536 * u
    t.bounded ∧
      (d.level < level → t.level = d.level + (level - d.level) / 2 ∧ t.level ≤ level) ∧
      (level ≤ d.level → t.level = d.level - d.level / 2 ^ (8 + cfg.decay)) ∧
      (level < d.floor → t.floor = d.floor - (d.floor - level) / 64 ∧ level ≤ t.floor) ∧
      (d.floor < level → d.talk = .quiet → t.floor = d.floor + (level - d.floor) / 32768 ∧ t.floor ≤ level) ∧
      (d.floor < level → d.talk = .talking → t.floor = d.floor) ∧
      (level = d.floor → t.floor = d.floor) ∧
      (d.talk = .quiet → (t.talk = .talking ↔ t.floor + cfg.tOn * 65536 < t.level)) ∧
      (d.talk = .talking → (t.talk = .quiet ↔ t.level < t.floor + (cfg.tOn - min cfg.h cfg.tOn) * 65536))

/-- R48 to R50, R52 to R54: the echo decision, the shifted samples and the frame's activity; and with hangover setting h, the
h + 1 stepped frames from the first inactive one after SPEECH are speech without onset, then every eighth is SID and the others
NODATA, and the active frame that ends the silence is speech with onset. -/
def Obligations.FrameKinds : Prop :=
  (∀ j : EncodeJob,
      let suppressed := j.uplink = true ∧ j.downlink = true ∧ (j.echoShift = 1 ∨ j.echoShift = 2 ∨ j.echoShift = 3) ∧
        j.outTalk = .talking ∧ j.inLevel + j.margin * 65536 ≤ j.outLevel
      (echoSuppressed j = true ↔ suppressed) ∧
        (suppressed → frameSamples j = j.codes.map fun c => expand j.law c / (2 ^ j.echoShift : Int)) ∧
        (¬ suppressed → frameSamples j = j.codes.map (expand j.law)) ∧
        (frameActive j = true ↔ j.dtx = false ∨ (j.talkSeen = true ∧ ¬ suppressed))) ∧
    ∀ h n : Nat, h ≤ 15 →
      let silentRun := (fun d => (dtxStep h false d).1)^[n] .speech
      (dtxStep h false silentRun).2 =
          (if n ≤ h ∧ h ≠ 0 then .speech false else if (n - (if h = 0 then 0 else h + 1)) % 8 = 0 then .sid else .nodata) ∧
        (dtxStep h true silentRun).1 = .speech ∧
        (dtxStep h true silentRun).2 = .speech (decide (if h = 0 then 1 ≤ n else h + 2 ≤ n))

/-- R29, R30, R31: the SID level is the first whose amplitude reaches twice the mean magnitude, and comfort noise is one
generator step and one bounded sample at a time, from a generator that never becomes 0. -/
def Obligations.ComfortNoise : Prop :=
  (∀ g : BitVec 16, g ≠ 0 → genStep g ≠ 0) ∧
    (∀ (g : BitVec 16) (i : Nat), i < 15 → (genStep g).getLsbD i = g.getLsbD (i + 1)) ∧
    (∀ g : BitVec 16, (genStep g).getLsbD 15 = (g.getLsbD 0 ^^ g.getLsbD 2 ^^ g.getLsbD 3 ^^ g.getLsbD 5)) ∧
    (∀ k < 384, (0x4A5D#16 ^^^ BitVec.ofNat 16 k) ≠ 0) ∧ (∀ level, amp level = (4 + level % 4) * 2 ^ (level / 4)) ∧
    (∀ (level n : Nat) (g : BitVec 16), (comfortNoise level n g).2 = genStep^[n] g ∧
      (comfortNoise level n g).1 = (List.range n).map fun i => (genStep^[i + 1] g).toInt * (amp level : Int) / 32768) ∧
    (∀ (level : Nat) (g : BitVec 16), level ≤ 47 → -14336 ≤ noiseSample level g ∧ noiseSample level g ≤ 14335) ∧
    ∀ xs : List Int, xs.length = 160 →
      let mav := (xs.map Int.natAbs).sum / 160
      let v := sidLevel xs
      v ≤ 47 ∧ (2 * mav ≤ amp v ∨ v = 47) ∧ ∀ w < v, amp w < 2 * mav

/-! ### What holds at every moment -/

/-- R134, R152, R169: the steps the part takes by itself come to an end in every state, and at the end of every event no group
can leave the order, no timeout is due, and either no lane is free or no eligible job is pending. The rows of drains, fetch
reads and ends of work act on that state. The order of those steps is the model's choice 2, and that at the end of a CLOSE too no
group of a CLOSING context stands at the head is its reading 14 of R152. -/
def Obligations.EveryEventSettles : Prop :=
  ∀ s : State,
    let u := s.settle
    u.dueStep = none ∧ u.orderRests ∧ ¬ u.timeoutMet ∧
      (4 ≤ u.engine.running.length ∨ ∀ j ∈ u.engine.jobs, j.kind = .encode ∧ ∃ r ∈ u.engine.running, r.job = j) ∧
      (∀ i ∈ [Instr.drain, .fetchHeaderRead, .fetchBodyRead], exec i s = exec i u) ∧
      ∀ k, exec (.encodeEndOfWork k) s = exec (.encodeEndOfWork k) u ∧
        exec (.decodeJobCompletion k) s = exec (.decodeJobCompletion k) u

/-- R149, R152: while every waiting group is as small as R151's table says, a master access that waits is granted after finitely
many grants to the part's own claimants, each followed by the steps it makes due: each of the 16 write rows and the 2 read rows
does from any such state what it does from the state in which its access is granted. That a command waits so is the model's
choice 3, and the steps between the grants are those of its choice 2 and its reading 14. -/
def Obligations.MasterIsGranted : Prop :=
  ∀ s : State, s.groupsSmall → (s.await .master).masterTurn ∧
    (∀ b : WriteBurst, ∀ c ∈ [Instr.ingressPcmWrite b, .mobileIngressWrite b, .controlAreaWrite b, .egressConsumerWrite b,
        .noticeConsumerWrite b, .masterWrite b, .ctxOpen b, .ctxModify b, .ctxHandover b, .ctxClose b, .ctxReport b,
        .ctxBadCommand b, .ctlStart b, .ctlStop b, .ctlClear b, .ctlBadCommand b],
      exec c s = exec c (s.await .master)) ∧
    (∀ b : ReadBurst, ∀ c ∈ [Instr.egressPcmRead b, .masterRead b], exec c s = exec c (s.await .master)) ∧
    let u := s.settle
    (u.portChoice true = some .master → s.await .master = u) ∧
      (u.portChoice true = some .pwq → ∃ t, exec .drain u = .next t ∧ s.await .master = t.await .master) ∧
      ∀ f, u.portChoice true = some .ffu → u.ffu.buffer = some f →
        (f.phase = .header → ∃ t, exec .fetchHeaderRead u = .next t ∧ s.await .master = t.await .master) ∧
        (f.phase ≠ .header → ∃ t, exec .fetchBodyRead u = .next t ∧ s.await .master = t.await .master)

/-- R150, R131, R112, R121, the canonical form of both memories, and R65, R89 and R151's sizes of halves, templates and write
groups: every step keeps each of the five laws. -/
def Obligations.BlockLawsKept : Prop :=
  ∀ s t : State, step s = .next t →
    (s.queueLaw → t.queueLaw) ∧ (s.laneLaw → t.laneLaw) ∧ (s.memoryLaw → t.memoryLaw) ∧ (s.fetchLaw → t.fetchLaw) ∧
      (s.sizeLaw → t.sizeLaw)

/-- R107, R69, R44, R21, R51, R89, R1, R60, R148, R159, R167, R169: every step keeps counters and replay levels, detector
levels, configuration, coder and DTX state, and the clocks, grant counters, timer and ring indices in range. -/
def Obligations.RangesKept : Prop :=
  ∀ s t : State, step s = .next t →
    (s.counterLaw → t.counterLaw) ∧ (s.detectorLaw → t.detectorLaw) ∧ (s.coderLaw → t.coderLaw) ∧
      (s.rangeLaw → t.rangeLaw)

/-- R170, R164: every step leaves EVENT and READY as their rules give them from the counts, the latches and the part state. -/
def Obligations.LinesFollowRules : Prop :=
  ∀ s t : State, step s = .next t → s.lineLaw → t.lineLaw

/-- R79: every step keeps the law of the timeslot map. -/
def Obligations.MapLawKept : Prop :=
  ∀ s t : State, step s = .next t → s.mapLaw → t.mapLaw

/-- R119: every step keeps the law of the stream tag map. -/
def Obligations.TagLawKept : Prop :=
  ∀ s t : State, step s = .next t → s.tagLaw → t.tagLaw

/-- R123, R124, R125: every step keeps LOW clear only from 512 free blocks and set only below 1024, and, where the playout
queues keep their law, the law of the frame pool. -/
def Obligations.PoolLawKept : Prop :=
  ∀ s t : State, step s = .next t → (s.lowLaw → t.lowLaw) ∧ (s.playoutLaw → s.poolLaw → t.poolLaw)

/-- R125: every step keeps the law of the playout queues. -/
def Obligations.PlayoutLawKept : Prop :=
  ∀ s t : State, step s = .next t → s.playoutLaw → t.playoutLaw

/-- R69, R90, R91, R132, R134: every step keeps the laws of pending and running jobs. -/
def Obligations.JobLawKept : Prop :=
  ∀ s t : State, step s = .next t → s.jobLaw → t.jobLaw

/-- R159, R162: with the job laws, every step keeps the i-th waiting egress group at slot (producer + i) mod Ne. -/
def Obligations.SlotLawKept : Prop :=
  ∀ s t : State, step s = .next t → s.jobLaw → s.slotLaw → t.slotLaw
end

