-- ==== Sys2Proof/Laws/Memory.lean ====
section
/-! SUPPORT. Byte storage: a read after a write, the canonical form, and the bytes of a burst. -/
namespace Sys2Proof.Machine

/-! ### Reads after writes -/

theorem Memory.get_put (m : Memory) (x y : Nat) (v : Byte) :
    Memory.wf m = true → Memory.get (Memory.put m x v) y = if y = x then v else Memory.get m y := by
  induction m with
  | nil =>
    intro _
    rw [Memory.put]
    split
    · rename_i hv; by_cases hy : y = x <;> simp [Memory.get, hy, hv]
    · by_cases hy : y = x
      · simp [hy, Memory.get]
      · simp [hy, Ne.symm hy, Memory.get]
  | cons c rest ih =>
    obtain ⟨a, b⟩ := c
    intro h
    simp only [Memory.wf, Bool.and_eq_true, List.all_eq_true, decide_eq_true_eq] at h
    obtain ⟨⟨_, hlt⟩, hr⟩ := h
    have blank : ∀ {l : Memory}, (∀ c ∈ l, x < c.1) → Memory.get l x = Memory.blank := by
      intro l
      induction l with
      | nil => intro _; rfl
      | cons d l ih =>
        intro h
        have := h d (by simp)
        simp only [Memory.get]
        rw [if_neg (by omega), ih fun c hc => h c (by simp [hc])]
    simp only [Memory.put]
    split
    · rename_i hx
      have hb : Memory.get ((a, b) :: rest) x = Memory.blank := by
        apply blank
        intro c hc
        rcases List.mem_cons.mp hc with rfl | hc
        · exact hx
        · exact Nat.lt_trans hx (hlt c hc)
      split
      · rename_i hv
        by_cases hy : y = x
        · simp [hy, hb, hv]
        · simp [hy]
      · by_cases hy : y = x
        · simp [hy, Memory.get]
        · simp [hy, Memory.get, Ne.symm hy]
    · split
      · rename_i hx
        subst hx
        split
        · rename_i hv
          by_cases hy : y = x
          · subst hy; simp [hv, blank hlt]
          · simp [Memory.get, hy, Ne.symm hy]
        · by_cases hy : y = x
          · simp [hy, Memory.get]
          · simp [hy, Memory.get, Ne.symm hy]
      · rename_i hx hne
        simp only [Memory.get, ih hr]
        by_cases hy : y = x
        · simp [hy]; omega
        · simp [hy]

/-! ### The canonical form -/

theorem Memory.put_lower (m : Memory) (x : Nat) (v : Byte) (a : Nat) (hx : a < x) (h : ∀ c ∈ m, a < c.1) :
    ∀ c ∈ Memory.put m x v, a < c.1 := by
  induction m with
  | nil => intro c hc; simp only [Memory.put] at hc; split at hc <;> simp_all
  | cons d rest ih =>
    obtain ⟨b, w⟩ := d
    intro c hc
    simp only [Memory.put] at hc
    have hr := ih fun c hc => h c (by simp [hc])
    split at hc
    · split at hc
      · exact h c hc
      · rcases List.mem_cons.mp hc with rfl | hc
        · exact hx
        · exact h c hc
    · split at hc
      · split at hc
        · exact h c (by simp [hc])
        · rcases List.mem_cons.mp hc with rfl | hc
          · exact hx
          · exact h c (by simp [hc])
      · rcases List.mem_cons.mp hc with rfl | hc
        · exact h _ (by simp)
        · exact hr c hc

theorem Memory.wf_put (m : Memory) (x : Nat) (v : Byte) (h : Memory.wf m = true) : Memory.wf (Memory.put m x v) = true := by
  induction m with
  | nil =>
    rw [Memory.put]
    split
    · rfl
    · rename_i hv; simpa [Memory.wf] using hv
  | cons d rest ih =>
    obtain ⟨a, b⟩ := d
    have h' := h
    simp only [Memory.wf, Bool.and_eq_true, List.all_eq_true, decide_eq_true_eq, bne_iff_ne, ne_eq] at h
    obtain ⟨⟨hb, hlt⟩, hr⟩ := h
    simp only [Memory.put]
    split
    · rename_i hx
      split
      · exact h'
      · rename_i hv
        simp only [Memory.wf, Bool.and_eq_true, List.all_eq_true, decide_eq_true_eq, bne_iff_ne, ne_eq]
        refine ⟨⟨hv, ?_⟩, ⟨hb, hlt⟩, hr⟩
        intro c hc
        rcases List.mem_cons.mp hc with rfl | hc
        · exact hx
        · exact Nat.lt_trans hx (hlt c hc)
    · split
      · rename_i hx
        subst hx
        split
        · exact hr
        · rename_i hv
          simp only [Memory.wf, Bool.and_eq_true, List.all_eq_true, decide_eq_true_eq, bne_iff_ne, ne_eq]
          exact ⟨⟨hv, hlt⟩, hr⟩
      · simp only [Memory.wf, Bool.and_eq_true, List.all_eq_true, decide_eq_true_eq, bne_iff_ne, ne_eq]
        exact ⟨⟨hb, Memory.put_lower rest x v a (by omega) hlt⟩, ih hr⟩

theorem Memory.wf_putAll (m : Memory) (cells : List (Nat × Byte)) (h : Memory.wf m = true) :
    Memory.wf (Memory.putAll m cells) = true := by
  induction cells generalizing m with
  | nil => exact h
  | cons c cells ih => exact ih _ (Memory.wf_put m c.1 c.2 h)

theorem State.wf_storeCells (s : State) (cells : List (Nat × Byte)) (h : Memory.wf s.mem = true) :
    Memory.wf (s.storeCells cells).mem = true := Memory.wf_putAll _ _ h

theorem State.wf_snoop (s : State) (offs : List (Nat × Byte)) (h : Memory.wf s.shadow = true) :
    Memory.wf (s.snoop offs).shadow = true := Memory.wf_putAll _ _ h

theorem Memory.wf_reset : Memory.wf State.reset.mem = true ∧ Memory.wf State.reset.shadow = true := ⟨rfl, rfl⟩

end Sys2Proof.Machine
end

