-- ==== Sys2Proof/Laws/State.lean ====
section
/-! SUPPORT. One lemma per field per named update of State: the fields an update leaves as they are, and the field it writes where
the value is plain. -/
namespace Sys2Proof.Machine
variable (s : State)

/-! ### State.setCtx -/
@[simp] theorem State.setCtx_part (k : Nat) (c : Context) : (s.setCtx k c).part = s.part := rfl
@[simp] theorem State.setCtx_clocks (k : Nat) (c : Context) : (s.setCtx k c).clocks = s.clocks := rfl
@[simp] theorem State.setCtx_tsm (k : Nat) (c : Context) : (s.setCtx k c).tsm = s.tsm := rfl
@[simp] theorem State.setCtx_shadow (k : Nat) (c : Context) : (s.setCtx k c).shadow = s.shadow := rfl
@[simp] theorem State.setCtx_ffu (k : Nat) (c : Context) : (s.setCtx k c).ffu = s.ffu := rfl
@[simp] theorem State.setCtx_tags (k : Nat) (c : Context) : (s.setCtx k c).tags = s.tags := rfl
@[simp] theorem State.setCtx_pool (k : Nat) (c : Context) : (s.setCtx k c).pool = s.pool := rfl
@[simp] theorem State.setCtx_engine (k : Nat) (c : Context) : (s.setCtx k c).engine = s.engine := rfl
@[simp] theorem State.setCtx_pwq (k : Nat) (c : Context) : (s.setCtx k c).pwq = s.pwq := rfl
@[simp] theorem State.setCtx_mpa (k : Nat) (c : Context) : (s.setCtx k c).mpa = s.mpa := rfl
@[simp] theorem State.setCtx_erw (k : Nat) (c : Context) : (s.setCtx k c).erw = s.erw := rfl
@[simp] theorem State.setCtx_ntw (k : Nat) (c : Context) : (s.setCtx k c).ntw = s.ntw := rfl
@[simp] theorem State.setCtx_mem (k : Nat) (c : Context) : (s.setCtx k c).mem = s.mem := rfl
@[simp] theorem State.setCtx_readData (k : Nat) (c : Context) : (s.setCtx k c).readData = s.readData := rfl
@[simp] theorem State.setCtx_openReads (k : Nat) (c : Context) : (s.setCtx k c).openReads = s.openReads := rfl
@[simp] theorem State.setCtx_fitted (k : Nat) (c : Context) : (s.setCtx k c).fitted = s.fitted := rfl
@[simp] theorem State.setCtx_pending (k : Nat) (c : Context) : (s.setCtx k c).pending = s.pending := rfl

/-! ### State.modCtx -/
@[simp] theorem State.modCtx_part (k : Nat) (f : Context → Context) : (s.modCtx k f).part = s.part := rfl
@[simp] theorem State.modCtx_clocks (k : Nat) (f : Context → Context) : (s.modCtx k f).clocks = s.clocks := rfl
@[simp] theorem State.modCtx_tsm (k : Nat) (f : Context → Context) : (s.modCtx k f).tsm = s.tsm := rfl
@[simp] theorem State.modCtx_shadow (k : Nat) (f : Context → Context) : (s.modCtx k f).shadow = s.shadow := rfl
@[simp] theorem State.modCtx_ffu (k : Nat) (f : Context → Context) : (s.modCtx k f).ffu = s.ffu := rfl
@[simp] theorem State.modCtx_tags (k : Nat) (f : Context → Context) : (s.modCtx k f).tags = s.tags := rfl
@[simp] theorem State.modCtx_pool (k : Nat) (f : Context → Context) : (s.modCtx k f).pool = s.pool := rfl
@[simp] theorem State.modCtx_engine (k : Nat) (f : Context → Context) : (s.modCtx k f).engine = s.engine := rfl
@[simp] theorem State.modCtx_pwq (k : Nat) (f : Context → Context) : (s.modCtx k f).pwq = s.pwq := rfl
@[simp] theorem State.modCtx_mpa (k : Nat) (f : Context → Context) : (s.modCtx k f).mpa = s.mpa := rfl
@[simp] theorem State.modCtx_erw (k : Nat) (f : Context → Context) : (s.modCtx k f).erw = s.erw := rfl
@[simp] theorem State.modCtx_ntw (k : Nat) (f : Context → Context) : (s.modCtx k f).ntw = s.ntw := rfl
@[simp] theorem State.modCtx_mem (k : Nat) (f : Context → Context) : (s.modCtx k f).mem = s.mem := rfl
@[simp] theorem State.modCtx_readData (k : Nat) (f : Context → Context) : (s.modCtx k f).readData = s.readData := rfl
@[simp] theorem State.modCtx_openReads (k : Nat) (f : Context → Context) : (s.modCtx k f).openReads = s.openReads := rfl
@[simp] theorem State.modCtx_fitted (k : Nat) (f : Context → Context) : (s.modCtx k f).fitted = s.fitted := rfl
@[simp] theorem State.modCtx_pending (k : Nat) (f : Context → Context) : (s.modCtx k f).pending = s.pending := rfl

/-! ### State.count -/
@[simp] theorem State.count_part (k : Nat) (f : Counters → Counters) : (s.count k f).part = s.part := rfl
@[simp] theorem State.count_clocks (k : Nat) (f : Counters → Counters) : (s.count k f).clocks = s.clocks := rfl
@[simp] theorem State.count_tsm (k : Nat) (f : Counters → Counters) : (s.count k f).tsm = s.tsm := rfl
@[simp] theorem State.count_shadow (k : Nat) (f : Counters → Counters) : (s.count k f).shadow = s.shadow := rfl
@[simp] theorem State.count_ffu (k : Nat) (f : Counters → Counters) : (s.count k f).ffu = s.ffu := rfl
@[simp] theorem State.count_tags (k : Nat) (f : Counters → Counters) : (s.count k f).tags = s.tags := rfl
@[simp] theorem State.count_pool (k : Nat) (f : Counters → Counters) : (s.count k f).pool = s.pool := rfl
@[simp] theorem State.count_engine (k : Nat) (f : Counters → Counters) : (s.count k f).engine = s.engine := rfl
@[simp] theorem State.count_pwq (k : Nat) (f : Counters → Counters) : (s.count k f).pwq = s.pwq := rfl
@[simp] theorem State.count_mpa (k : Nat) (f : Counters → Counters) : (s.count k f).mpa = s.mpa := rfl
@[simp] theorem State.count_erw (k : Nat) (f : Counters → Counters) : (s.count k f).erw = s.erw := rfl
@[simp] theorem State.count_ntw (k : Nat) (f : Counters → Counters) : (s.count k f).ntw = s.ntw := rfl
@[simp] theorem State.count_mem (k : Nat) (f : Counters → Counters) : (s.count k f).mem = s.mem := rfl
@[simp] theorem State.count_readData (k : Nat) (f : Counters → Counters) : (s.count k f).readData = s.readData := rfl
@[simp] theorem State.count_openReads (k : Nat) (f : Counters → Counters) : (s.count k f).openReads = s.openReads := rfl
@[simp] theorem State.count_fitted (k : Nat) (f : Counters → Counters) : (s.count k f).fitted = s.fitted := rfl
@[simp] theorem State.count_pending (k : Nat) (f : Counters → Counters) : (s.count k f).pending = s.pending := rfl

/-! ### State.setEdges -/
@[simp] theorem State.setEdges_part (k : Nat) (f : Edges → Edges) : (s.setEdges k f).part = s.part := rfl
@[simp] theorem State.setEdges_clocks (k : Nat) (f : Edges → Edges) : (s.setEdges k f).clocks = s.clocks := rfl
@[simp] theorem State.setEdges_tsm (k : Nat) (f : Edges → Edges) : (s.setEdges k f).tsm = s.tsm := rfl
@[simp] theorem State.setEdges_shadow (k : Nat) (f : Edges → Edges) : (s.setEdges k f).shadow = s.shadow := rfl
@[simp] theorem State.setEdges_ffu (k : Nat) (f : Edges → Edges) : (s.setEdges k f).ffu = s.ffu := rfl
@[simp] theorem State.setEdges_tags (k : Nat) (f : Edges → Edges) : (s.setEdges k f).tags = s.tags := rfl
@[simp] theorem State.setEdges_pool (k : Nat) (f : Edges → Edges) : (s.setEdges k f).pool = s.pool := rfl
@[simp] theorem State.setEdges_engine (k : Nat) (f : Edges → Edges) : (s.setEdges k f).engine = s.engine := rfl
@[simp] theorem State.setEdges_pwq (k : Nat) (f : Edges → Edges) : (s.setEdges k f).pwq = s.pwq := rfl
@[simp] theorem State.setEdges_mpa (k : Nat) (f : Edges → Edges) : (s.setEdges k f).mpa = s.mpa := rfl
@[simp] theorem State.setEdges_erw (k : Nat) (f : Edges → Edges) : (s.setEdges k f).erw = s.erw := rfl
@[simp] theorem State.setEdges_ntw (k : Nat) (f : Edges → Edges) : (s.setEdges k f).ntw = s.ntw := rfl
@[simp] theorem State.setEdges_mem (k : Nat) (f : Edges → Edges) : (s.setEdges k f).mem = s.mem := rfl
@[simp] theorem State.setEdges_readData (k : Nat) (f : Edges → Edges) : (s.setEdges k f).readData = s.readData := rfl
@[simp] theorem State.setEdges_openReads (k : Nat) (f : Edges → Edges) : (s.setEdges k f).openReads = s.openReads := rfl
@[simp] theorem State.setEdges_fitted (k : Nat) (f : Edges → Edges) : (s.setEdges k f).fitted = s.fitted := rfl
@[simp] theorem State.setEdges_pending (k : Nat) (f : Edges → Edges) : (s.setEdges k f).pending = s.pending := rfl

/-! ### State.setTaps -/
@[simp] theorem State.setTaps_part (t : Nat) (l : List Nat) : (s.setTaps t l).part = s.part := rfl
@[simp] theorem State.setTaps_clocks (t : Nat) (l : List Nat) : (s.setTaps t l).clocks = s.clocks := rfl
@[simp] theorem State.setTaps_ctxs (t : Nat) (l : List Nat) : (s.setTaps t l).ctxs = s.ctxs := rfl
@[simp] theorem State.setTaps_shadow (t : Nat) (l : List Nat) : (s.setTaps t l).shadow = s.shadow := rfl
@[simp] theorem State.setTaps_ffu (t : Nat) (l : List Nat) : (s.setTaps t l).ffu = s.ffu := rfl
@[simp] theorem State.setTaps_tags (t : Nat) (l : List Nat) : (s.setTaps t l).tags = s.tags := rfl
@[simp] theorem State.setTaps_pool (t : Nat) (l : List Nat) : (s.setTaps t l).pool = s.pool := rfl
@[simp] theorem State.setTaps_engine (t : Nat) (l : List Nat) : (s.setTaps t l).engine = s.engine := rfl
@[simp] theorem State.setTaps_pwq (t : Nat) (l : List Nat) : (s.setTaps t l).pwq = s.pwq := rfl
@[simp] theorem State.setTaps_mpa (t : Nat) (l : List Nat) : (s.setTaps t l).mpa = s.mpa := rfl
@[simp] theorem State.setTaps_erw (t : Nat) (l : List Nat) : (s.setTaps t l).erw = s.erw := rfl
@[simp] theorem State.setTaps_ntw (t : Nat) (l : List Nat) : (s.setTaps t l).ntw = s.ntw := rfl
@[simp] theorem State.setTaps_mem (t : Nat) (l : List Nat) : (s.setTaps t l).mem = s.mem := rfl
@[simp] theorem State.setTaps_readData (t : Nat) (l : List Nat) : (s.setTaps t l).readData = s.readData := rfl
@[simp] theorem State.setTaps_openReads (t : Nat) (l : List Nat) : (s.setTaps t l).openReads = s.openReads := rfl
@[simp] theorem State.setTaps_fitted (t : Nat) (l : List Nat) : (s.setTaps t l).fitted = s.fitted := rfl
@[simp] theorem State.setTaps_pending (t : Nat) (l : List Nat) : (s.setTaps t l).pending = s.pending := rfl

/-! ### State.setClaims -/
@[simp] theorem State.setClaims_part (t : Nat) (l : List Nat) : (s.setClaims t l).part = s.part := rfl
@[simp] theorem State.setClaims_clocks (t : Nat) (l : List Nat) : (s.setClaims t l).clocks = s.clocks := rfl
@[simp] theorem State.setClaims_ctxs (t : Nat) (l : List Nat) : (s.setClaims t l).ctxs = s.ctxs := rfl
@[simp] theorem State.setClaims_shadow (t : Nat) (l : List Nat) : (s.setClaims t l).shadow = s.shadow := rfl
@[simp] theorem State.setClaims_ffu (t : Nat) (l : List Nat) : (s.setClaims t l).ffu = s.ffu := rfl
@[simp] theorem State.setClaims_tags (t : Nat) (l : List Nat) : (s.setClaims t l).tags = s.tags := rfl
@[simp] theorem State.setClaims_pool (t : Nat) (l : List Nat) : (s.setClaims t l).pool = s.pool := rfl
@[simp] theorem State.setClaims_engine (t : Nat) (l : List Nat) : (s.setClaims t l).engine = s.engine := rfl
@[simp] theorem State.setClaims_pwq (t : Nat) (l : List Nat) : (s.setClaims t l).pwq = s.pwq := rfl
@[simp] theorem State.setClaims_mpa (t : Nat) (l : List Nat) : (s.setClaims t l).mpa = s.mpa := rfl
@[simp] theorem State.setClaims_erw (t : Nat) (l : List Nat) : (s.setClaims t l).erw = s.erw := rfl
@[simp] theorem State.setClaims_ntw (t : Nat) (l : List Nat) : (s.setClaims t l).ntw = s.ntw := rfl
@[simp] theorem State.setClaims_mem (t : Nat) (l : List Nat) : (s.setClaims t l).mem = s.mem := rfl
@[simp] theorem State.setClaims_readData (t : Nat) (l : List Nat) : (s.setClaims t l).readData = s.readData := rfl
@[simp] theorem State.setClaims_openReads (t : Nat) (l : List Nat) : (s.setClaims t l).openReads = s.openReads := rfl
@[simp] theorem State.setClaims_fitted (t : Nat) (l : List Nat) : (s.setClaims t l).fitted = s.fitted := rfl
@[simp] theorem State.setClaims_pending (t : Nat) (l : List Nat) : (s.setClaims t l).pending = s.pending := rfl

/-! ### State.requestGroup -/
@[simp] theorem State.requestGroup_part (g : Group) : (s.requestGroup g).part = s.part := rfl
@[simp] theorem State.requestGroup_clocks (g : Group) : (s.requestGroup g).clocks = s.clocks := rfl
@[simp] theorem State.requestGroup_tsm (g : Group) : (s.requestGroup g).tsm = s.tsm := rfl
@[simp] theorem State.requestGroup_ctxs (g : Group) : (s.requestGroup g).ctxs = s.ctxs := rfl
@[simp] theorem State.requestGroup_shadow (g : Group) : (s.requestGroup g).shadow = s.shadow := rfl
@[simp] theorem State.requestGroup_ffu (g : Group) : (s.requestGroup g).ffu = s.ffu := rfl
@[simp] theorem State.requestGroup_tags (g : Group) : (s.requestGroup g).tags = s.tags := rfl
@[simp] theorem State.requestGroup_pool (g : Group) : (s.requestGroup g).pool = s.pool := rfl
@[simp] theorem State.requestGroup_engine (g : Group) : (s.requestGroup g).engine = s.engine := rfl
@[simp] theorem State.requestGroup_mpa (g : Group) : (s.requestGroup g).mpa = s.mpa := rfl
@[simp] theorem State.requestGroup_erw (g : Group) : (s.requestGroup g).erw = s.erw := rfl
@[simp] theorem State.requestGroup_ntw (g : Group) : (s.requestGroup g).ntw = s.ntw := rfl
@[simp] theorem State.requestGroup_mem (g : Group) : (s.requestGroup g).mem = s.mem := rfl
@[simp] theorem State.requestGroup_readData (g : Group) : (s.requestGroup g).readData = s.readData := rfl
@[simp] theorem State.requestGroup_openReads (g : Group) : (s.requestGroup g).openReads = s.openReads := rfl
@[simp] theorem State.requestGroup_fitted (g : Group) : (s.requestGroup g).fitted = s.fitted := rfl
@[simp] theorem State.requestGroup_pending (g : Group) : (s.requestGroup g).pending = s.pending := rfl

/-! ### State.ctxStatus -/
@[simp] theorem State.ctxStatus_part (k : Nat) (r : Result) (tag code : Byte) : (s.ctxStatus k r tag code).part = s.part := rfl
@[simp] theorem State.ctxStatus_clocks (k : Nat) (r : Result) (tag code : Byte) : (s.ctxStatus k r tag code).clocks = s.clocks := rfl
@[simp] theorem State.ctxStatus_tsm (k : Nat) (r : Result) (tag code : Byte) : (s.ctxStatus k r tag code).tsm = s.tsm := rfl
@[simp] theorem State.ctxStatus_ctxs (k : Nat) (r : Result) (tag code : Byte) : (s.ctxStatus k r tag code).ctxs = s.ctxs := rfl
@[simp] theorem State.ctxStatus_shadow (k : Nat) (r : Result) (tag code : Byte) : (s.ctxStatus k r tag code).shadow = s.shadow := rfl
@[simp] theorem State.ctxStatus_ffu (k : Nat) (r : Result) (tag code : Byte) : (s.ctxStatus k r tag code).ffu = s.ffu := rfl
@[simp] theorem State.ctxStatus_tags (k : Nat) (r : Result) (tag code : Byte) : (s.ctxStatus k r tag code).tags = s.tags := rfl
@[simp] theorem State.ctxStatus_pool (k : Nat) (r : Result) (tag code : Byte) : (s.ctxStatus k r tag code).pool = s.pool := rfl
@[simp] theorem State.ctxStatus_engine (k : Nat) (r : Result) (tag code : Byte) : (s.ctxStatus k r tag code).engine = s.engine := rfl
@[simp] theorem State.ctxStatus_mpa (k : Nat) (r : Result) (tag code : Byte) : (s.ctxStatus k r tag code).mpa = s.mpa := rfl
@[simp] theorem State.ctxStatus_erw (k : Nat) (r : Result) (tag code : Byte) : (s.ctxStatus k r tag code).erw = s.erw := rfl
@[simp] theorem State.ctxStatus_ntw (k : Nat) (r : Result) (tag code : Byte) : (s.ctxStatus k r tag code).ntw = s.ntw := rfl
@[simp] theorem State.ctxStatus_mem (k : Nat) (r : Result) (tag code : Byte) : (s.ctxStatus k r tag code).mem = s.mem := rfl
@[simp] theorem State.ctxStatus_readData (k : Nat) (r : Result) (tag code : Byte) : (s.ctxStatus k r tag code).readData = s.readData := rfl
@[simp] theorem State.ctxStatus_openReads (k : Nat) (r : Result) (tag code : Byte) : (s.ctxStatus k r tag code).openReads = s.openReads := rfl
@[simp] theorem State.ctxStatus_fitted (k : Nat) (r : Result) (tag code : Byte) : (s.ctxStatus k r tag code).fitted = s.fitted := rfl
@[simp] theorem State.ctxStatus_pending (k : Nat) (r : Result) (tag code : Byte) : (s.ctxStatus k r tag code).pending = s.pending := rfl

/-! ### State.ctlStatus -/
@[simp] theorem State.ctlStatus_part (r : Result) (tag code : Byte) : (s.ctlStatus r tag code).part = s.part := rfl
@[simp] theorem State.ctlStatus_clocks (r : Result) (tag code : Byte) : (s.ctlStatus r tag code).clocks = s.clocks := rfl
@[simp] theorem State.ctlStatus_tsm (r : Result) (tag code : Byte) : (s.ctlStatus r tag code).tsm = s.tsm := rfl
@[simp] theorem State.ctlStatus_ctxs (r : Result) (tag code : Byte) : (s.ctlStatus r tag code).ctxs = s.ctxs := rfl
@[simp] theorem State.ctlStatus_shadow (r : Result) (tag code : Byte) : (s.ctlStatus r tag code).shadow = s.shadow := rfl
@[simp] theorem State.ctlStatus_ffu (r : Result) (tag code : Byte) : (s.ctlStatus r tag code).ffu = s.ffu := rfl
@[simp] theorem State.ctlStatus_tags (r : Result) (tag code : Byte) : (s.ctlStatus r tag code).tags = s.tags := rfl
@[simp] theorem State.ctlStatus_pool (r : Result) (tag code : Byte) : (s.ctlStatus r tag code).pool = s.pool := rfl
@[simp] theorem State.ctlStatus_engine (r : Result) (tag code : Byte) : (s.ctlStatus r tag code).engine = s.engine := rfl
@[simp] theorem State.ctlStatus_mpa (r : Result) (tag code : Byte) : (s.ctlStatus r tag code).mpa = s.mpa := rfl
@[simp] theorem State.ctlStatus_erw (r : Result) (tag code : Byte) : (s.ctlStatus r tag code).erw = s.erw := rfl
@[simp] theorem State.ctlStatus_ntw (r : Result) (tag code : Byte) : (s.ctlStatus r tag code).ntw = s.ntw := rfl
@[simp] theorem State.ctlStatus_mem (r : Result) (tag code : Byte) : (s.ctlStatus r tag code).mem = s.mem := rfl
@[simp] theorem State.ctlStatus_readData (r : Result) (tag code : Byte) : (s.ctlStatus r tag code).readData = s.readData := rfl
@[simp] theorem State.ctlStatus_openReads (r : Result) (tag code : Byte) : (s.ctlStatus r tag code).openReads = s.openReads := rfl
@[simp] theorem State.ctlStatus_fitted (r : Result) (tag code : Byte) : (s.ctlStatus r tag code).fitted = s.fitted := rfl
@[simp] theorem State.ctlStatus_pending (r : Result) (tag code : Byte) : (s.ctlStatus r tag code).pending = s.pending := rfl

/-! ### State.storeCells -/
@[simp] theorem State.storeCells_part (cells : List (Nat × Byte)) : (s.storeCells cells).part = s.part := rfl
@[simp] theorem State.storeCells_clocks (cells : List (Nat × Byte)) : (s.storeCells cells).clocks = s.clocks := rfl
@[simp] theorem State.storeCells_tsm (cells : List (Nat × Byte)) : (s.storeCells cells).tsm = s.tsm := rfl
@[simp] theorem State.storeCells_ctxs (cells : List (Nat × Byte)) : (s.storeCells cells).ctxs = s.ctxs := rfl
@[simp] theorem State.storeCells_shadow (cells : List (Nat × Byte)) : (s.storeCells cells).shadow = s.shadow := rfl
@[simp] theorem State.storeCells_ffu (cells : List (Nat × Byte)) : (s.storeCells cells).ffu = s.ffu := rfl
@[simp] theorem State.storeCells_tags (cells : List (Nat × Byte)) : (s.storeCells cells).tags = s.tags := rfl
@[simp] theorem State.storeCells_pool (cells : List (Nat × Byte)) : (s.storeCells cells).pool = s.pool := rfl
@[simp] theorem State.storeCells_engine (cells : List (Nat × Byte)) : (s.storeCells cells).engine = s.engine := rfl
@[simp] theorem State.storeCells_pwq (cells : List (Nat × Byte)) : (s.storeCells cells).pwq = s.pwq := rfl
@[simp] theorem State.storeCells_mpa (cells : List (Nat × Byte)) : (s.storeCells cells).mpa = s.mpa := rfl
@[simp] theorem State.storeCells_erw (cells : List (Nat × Byte)) : (s.storeCells cells).erw = s.erw := rfl
@[simp] theorem State.storeCells_ntw (cells : List (Nat × Byte)) : (s.storeCells cells).ntw = s.ntw := rfl
@[simp] theorem State.storeCells_readData (cells : List (Nat × Byte)) : (s.storeCells cells).readData = s.readData := rfl
@[simp] theorem State.storeCells_openReads (cells : List (Nat × Byte)) : (s.storeCells cells).openReads = s.openReads := rfl
@[simp] theorem State.storeCells_fitted (cells : List (Nat × Byte)) : (s.storeCells cells).fitted = s.fitted := rfl
@[simp] theorem State.storeCells_pending (cells : List (Nat × Byte)) : (s.storeCells cells).pending = s.pending := rfl

/-! ### State.supersede -/
@[simp] theorem State.supersede_part (cells : List (Nat × Byte)) : (s.supersede cells).part = s.part := rfl
@[simp] theorem State.supersede_clocks (cells : List (Nat × Byte)) : (s.supersede cells).clocks = s.clocks := rfl
@[simp] theorem State.supersede_tsm (cells : List (Nat × Byte)) : (s.supersede cells).tsm = s.tsm := rfl
@[simp] theorem State.supersede_ctxs (cells : List (Nat × Byte)) : (s.supersede cells).ctxs = s.ctxs := rfl
@[simp] theorem State.supersede_shadow (cells : List (Nat × Byte)) : (s.supersede cells).shadow = s.shadow := rfl
@[simp] theorem State.supersede_ffu (cells : List (Nat × Byte)) : (s.supersede cells).ffu = s.ffu := rfl
@[simp] theorem State.supersede_tags (cells : List (Nat × Byte)) : (s.supersede cells).tags = s.tags := rfl
@[simp] theorem State.supersede_pool (cells : List (Nat × Byte)) : (s.supersede cells).pool = s.pool := rfl
@[simp] theorem State.supersede_engine (cells : List (Nat × Byte)) : (s.supersede cells).engine = s.engine := rfl
@[simp] theorem State.supersede_mpa (cells : List (Nat × Byte)) : (s.supersede cells).mpa = s.mpa := rfl
@[simp] theorem State.supersede_erw (cells : List (Nat × Byte)) : (s.supersede cells).erw = s.erw := rfl
@[simp] theorem State.supersede_ntw (cells : List (Nat × Byte)) : (s.supersede cells).ntw = s.ntw := rfl
@[simp] theorem State.supersede_mem (cells : List (Nat × Byte)) : (s.supersede cells).mem = s.mem := rfl
@[simp] theorem State.supersede_readData (cells : List (Nat × Byte)) : (s.supersede cells).readData = s.readData := rfl
@[simp] theorem State.supersede_openReads (cells : List (Nat × Byte)) : (s.supersede cells).openReads = s.openReads := rfl
@[simp] theorem State.supersede_fitted (cells : List (Nat × Byte)) : (s.supersede cells).fitted = s.fitted := rfl
@[simp] theorem State.supersede_pending (cells : List (Nat × Byte)) : (s.supersede cells).pending = s.pending := rfl

/-! ### State.countMasterGrant -/
@[simp] theorem State.countMasterGrant_part : (s.countMasterGrant).part = s.part := rfl
@[simp] theorem State.countMasterGrant_clocks : (s.countMasterGrant).clocks = s.clocks := rfl
@[simp] theorem State.countMasterGrant_tsm : (s.countMasterGrant).tsm = s.tsm := rfl
@[simp] theorem State.countMasterGrant_ctxs : (s.countMasterGrant).ctxs = s.ctxs := rfl
@[simp] theorem State.countMasterGrant_shadow : (s.countMasterGrant).shadow = s.shadow := rfl
@[simp] theorem State.countMasterGrant_ffu : (s.countMasterGrant).ffu = s.ffu := rfl
@[simp] theorem State.countMasterGrant_tags : (s.countMasterGrant).tags = s.tags := rfl
@[simp] theorem State.countMasterGrant_pool : (s.countMasterGrant).pool = s.pool := rfl
@[simp] theorem State.countMasterGrant_engine : (s.countMasterGrant).engine = s.engine := rfl
@[simp] theorem State.countMasterGrant_pwq : (s.countMasterGrant).pwq = s.pwq := rfl
@[simp] theorem State.countMasterGrant_erw : (s.countMasterGrant).erw = s.erw := rfl
@[simp] theorem State.countMasterGrant_ntw : (s.countMasterGrant).ntw = s.ntw := rfl
@[simp] theorem State.countMasterGrant_mem : (s.countMasterGrant).mem = s.mem := rfl
@[simp] theorem State.countMasterGrant_readData : (s.countMasterGrant).readData = s.readData := rfl
@[simp] theorem State.countMasterGrant_openReads : (s.countMasterGrant).openReads = s.openReads := rfl
@[simp] theorem State.countMasterGrant_fitted : (s.countMasterGrant).fitted = s.fitted := rfl
@[simp] theorem State.countMasterGrant_pending : (s.countMasterGrant).pending = s.pending := rfl

/-! ### State.countDrainGrant -/
@[simp] theorem State.countDrainGrant_part : (s.countDrainGrant).part = s.part := rfl
@[simp] theorem State.countDrainGrant_clocks : (s.countDrainGrant).clocks = s.clocks := rfl
@[simp] theorem State.countDrainGrant_tsm : (s.countDrainGrant).tsm = s.tsm := rfl
@[simp] theorem State.countDrainGrant_ctxs : (s.countDrainGrant).ctxs = s.ctxs := rfl
@[simp] theorem State.countDrainGrant_shadow : (s.countDrainGrant).shadow = s.shadow := rfl
@[simp] theorem State.countDrainGrant_ffu : (s.countDrainGrant).ffu = s.ffu := rfl
@[simp] theorem State.countDrainGrant_tags : (s.countDrainGrant).tags = s.tags := rfl
@[simp] theorem State.countDrainGrant_pool : (s.countDrainGrant).pool = s.pool := rfl
@[simp] theorem State.countDrainGrant_engine : (s.countDrainGrant).engine = s.engine := rfl
@[simp] theorem State.countDrainGrant_pwq : (s.countDrainGrant).pwq = s.pwq := rfl
@[simp] theorem State.countDrainGrant_erw : (s.countDrainGrant).erw = s.erw := rfl
@[simp] theorem State.countDrainGrant_ntw : (s.countDrainGrant).ntw = s.ntw := rfl
@[simp] theorem State.countDrainGrant_mem : (s.countDrainGrant).mem = s.mem := rfl
@[simp] theorem State.countDrainGrant_readData : (s.countDrainGrant).readData = s.readData := rfl
@[simp] theorem State.countDrainGrant_openReads : (s.countDrainGrant).openReads = s.openReads := rfl
@[simp] theorem State.countDrainGrant_fitted : (s.countDrainGrant).fitted = s.fitted := rfl
@[simp] theorem State.countDrainGrant_pending : (s.countDrainGrant).pending = s.pending := rfl

/-! ### State.countFetchGrant -/
@[simp] theorem State.countFetchGrant_part : (s.countFetchGrant).part = s.part := rfl
@[simp] theorem State.countFetchGrant_clocks : (s.countFetchGrant).clocks = s.clocks := rfl
@[simp] theorem State.countFetchGrant_tsm : (s.countFetchGrant).tsm = s.tsm := rfl
@[simp] theorem State.countFetchGrant_ctxs : (s.countFetchGrant).ctxs = s.ctxs := rfl
@[simp] theorem State.countFetchGrant_shadow : (s.countFetchGrant).shadow = s.shadow := rfl
@[simp] theorem State.countFetchGrant_ffu : (s.countFetchGrant).ffu = s.ffu := rfl
@[simp] theorem State.countFetchGrant_tags : (s.countFetchGrant).tags = s.tags := rfl
@[simp] theorem State.countFetchGrant_pool : (s.countFetchGrant).pool = s.pool := rfl
@[simp] theorem State.countFetchGrant_engine : (s.countFetchGrant).engine = s.engine := rfl
@[simp] theorem State.countFetchGrant_pwq : (s.countFetchGrant).pwq = s.pwq := rfl
@[simp] theorem State.countFetchGrant_erw : (s.countFetchGrant).erw = s.erw := rfl
@[simp] theorem State.countFetchGrant_ntw : (s.countFetchGrant).ntw = s.ntw := rfl
@[simp] theorem State.countFetchGrant_mem : (s.countFetchGrant).mem = s.mem := rfl
@[simp] theorem State.countFetchGrant_readData : (s.countFetchGrant).readData = s.readData := rfl
@[simp] theorem State.countFetchGrant_openReads : (s.countFetchGrant).openReads = s.openReads := rfl
@[simp] theorem State.countFetchGrant_fitted : (s.countFetchGrant).fitted = s.fitted := rfl
@[simp] theorem State.countFetchGrant_pending : (s.countFetchGrant).pending = s.pending := rfl

/-! ### State.requestJob -/
@[simp] theorem State.requestJob_part (k : Nat) (kind : JobKind) : (s.requestJob k kind).part = s.part := rfl
@[simp] theorem State.requestJob_clocks (k : Nat) (kind : JobKind) : (s.requestJob k kind).clocks = s.clocks := rfl
@[simp] theorem State.requestJob_tsm (k : Nat) (kind : JobKind) : (s.requestJob k kind).tsm = s.tsm := rfl
@[simp] theorem State.requestJob_ctxs (k : Nat) (kind : JobKind) : (s.requestJob k kind).ctxs = s.ctxs := rfl
@[simp] theorem State.requestJob_shadow (k : Nat) (kind : JobKind) : (s.requestJob k kind).shadow = s.shadow := rfl
@[simp] theorem State.requestJob_ffu (k : Nat) (kind : JobKind) : (s.requestJob k kind).ffu = s.ffu := rfl
@[simp] theorem State.requestJob_tags (k : Nat) (kind : JobKind) : (s.requestJob k kind).tags = s.tags := rfl
@[simp] theorem State.requestJob_pool (k : Nat) (kind : JobKind) : (s.requestJob k kind).pool = s.pool := rfl
@[simp] theorem State.requestJob_pwq (k : Nat) (kind : JobKind) : (s.requestJob k kind).pwq = s.pwq := rfl
@[simp] theorem State.requestJob_mpa (k : Nat) (kind : JobKind) : (s.requestJob k kind).mpa = s.mpa := rfl
@[simp] theorem State.requestJob_erw (k : Nat) (kind : JobKind) : (s.requestJob k kind).erw = s.erw := rfl
@[simp] theorem State.requestJob_ntw (k : Nat) (kind : JobKind) : (s.requestJob k kind).ntw = s.ntw := rfl
@[simp] theorem State.requestJob_mem (k : Nat) (kind : JobKind) : (s.requestJob k kind).mem = s.mem := rfl
@[simp] theorem State.requestJob_readData (k : Nat) (kind : JobKind) : (s.requestJob k kind).readData = s.readData := rfl
@[simp] theorem State.requestJob_openReads (k : Nat) (kind : JobKind) : (s.requestJob k kind).openReads = s.openReads := rfl
@[simp] theorem State.requestJob_fitted (k : Nat) (kind : JobKind) : (s.requestJob k kind).fitted = s.fitted := rfl
@[simp] theorem State.requestJob_pending (k : Nat) (kind : JobKind) : (s.requestJob k kind).pending = s.pending := rfl

/-! ### State.withdrawJob -/
@[simp] theorem State.withdrawJob_part (k : Nat) (kind : JobKind) : (s.withdrawJob k kind).part = s.part := rfl
@[simp] theorem State.withdrawJob_clocks (k : Nat) (kind : JobKind) : (s.withdrawJob k kind).clocks = s.clocks := rfl
@[simp] theorem State.withdrawJob_tsm (k : Nat) (kind : JobKind) : (s.withdrawJob k kind).tsm = s.tsm := rfl
@[simp] theorem State.withdrawJob_ctxs (k : Nat) (kind : JobKind) : (s.withdrawJob k kind).ctxs = s.ctxs := rfl
@[simp] theorem State.withdrawJob_shadow (k : Nat) (kind : JobKind) : (s.withdrawJob k kind).shadow = s.shadow := rfl
@[simp] theorem State.withdrawJob_ffu (k : Nat) (kind : JobKind) : (s.withdrawJob k kind).ffu = s.ffu := rfl
@[simp] theorem State.withdrawJob_tags (k : Nat) (kind : JobKind) : (s.withdrawJob k kind).tags = s.tags := rfl
@[simp] theorem State.withdrawJob_pool (k : Nat) (kind : JobKind) : (s.withdrawJob k kind).pool = s.pool := rfl
@[simp] theorem State.withdrawJob_pwq (k : Nat) (kind : JobKind) : (s.withdrawJob k kind).pwq = s.pwq := rfl
@[simp] theorem State.withdrawJob_mpa (k : Nat) (kind : JobKind) : (s.withdrawJob k kind).mpa = s.mpa := rfl
@[simp] theorem State.withdrawJob_erw (k : Nat) (kind : JobKind) : (s.withdrawJob k kind).erw = s.erw := rfl
@[simp] theorem State.withdrawJob_ntw (k : Nat) (kind : JobKind) : (s.withdrawJob k kind).ntw = s.ntw := rfl
@[simp] theorem State.withdrawJob_mem (k : Nat) (kind : JobKind) : (s.withdrawJob k kind).mem = s.mem := rfl
@[simp] theorem State.withdrawJob_readData (k : Nat) (kind : JobKind) : (s.withdrawJob k kind).readData = s.readData := rfl
@[simp] theorem State.withdrawJob_openReads (k : Nat) (kind : JobKind) : (s.withdrawJob k kind).openReads = s.openReads := rfl
@[simp] theorem State.withdrawJob_fitted (k : Nat) (kind : JobKind) : (s.withdrawJob k kind).fitted = s.fitted := rfl
@[simp] theorem State.withdrawJob_pending (k : Nat) (kind : JobKind) : (s.withdrawJob k kind).pending = s.pending := rfl

/-! ### State.markWaiting -/
@[simp] theorem State.markWaiting_part (k : Nat) : (s.markWaiting k).part = s.part := rfl
@[simp] theorem State.markWaiting_clocks (k : Nat) : (s.markWaiting k).clocks = s.clocks := rfl
@[simp] theorem State.markWaiting_tsm (k : Nat) : (s.markWaiting k).tsm = s.tsm := rfl
@[simp] theorem State.markWaiting_ctxs (k : Nat) : (s.markWaiting k).ctxs = s.ctxs := rfl
@[simp] theorem State.markWaiting_shadow (k : Nat) : (s.markWaiting k).shadow = s.shadow := rfl
@[simp] theorem State.markWaiting_ffu (k : Nat) : (s.markWaiting k).ffu = s.ffu := rfl
@[simp] theorem State.markWaiting_tags (k : Nat) : (s.markWaiting k).tags = s.tags := rfl
@[simp] theorem State.markWaiting_pool (k : Nat) : (s.markWaiting k).pool = s.pool := rfl
@[simp] theorem State.markWaiting_pwq (k : Nat) : (s.markWaiting k).pwq = s.pwq := rfl
@[simp] theorem State.markWaiting_mpa (k : Nat) : (s.markWaiting k).mpa = s.mpa := rfl
@[simp] theorem State.markWaiting_erw (k : Nat) : (s.markWaiting k).erw = s.erw := rfl
@[simp] theorem State.markWaiting_ntw (k : Nat) : (s.markWaiting k).ntw = s.ntw := rfl
@[simp] theorem State.markWaiting_mem (k : Nat) : (s.markWaiting k).mem = s.mem := rfl
@[simp] theorem State.markWaiting_readData (k : Nat) : (s.markWaiting k).readData = s.readData := rfl
@[simp] theorem State.markWaiting_openReads (k : Nat) : (s.markWaiting k).openReads = s.openReads := rfl
@[simp] theorem State.markWaiting_fitted (k : Nat) : (s.markWaiting k).fitted = s.fitted := rfl
@[simp] theorem State.markWaiting_pending (k : Nat) : (s.markWaiting k).pending = s.pending := rfl

/-! ### State.freeLane -/
@[simp] theorem State.freeLane_part (k : Nat) (kind : JobKind) : (s.freeLane k kind).part = s.part := rfl
@[simp] theorem State.freeLane_clocks (k : Nat) (kind : JobKind) : (s.freeLane k kind).clocks = s.clocks := rfl
@[simp] theorem State.freeLane_tsm (k : Nat) (kind : JobKind) : (s.freeLane k kind).tsm = s.tsm := rfl
@[simp] theorem State.freeLane_shadow (k : Nat) (kind : JobKind) : (s.freeLane k kind).shadow = s.shadow := rfl
@[simp] theorem State.freeLane_ffu (k : Nat) (kind : JobKind) : (s.freeLane k kind).ffu = s.ffu := rfl
@[simp] theorem State.freeLane_tags (k : Nat) (kind : JobKind) : (s.freeLane k kind).tags = s.tags := rfl
@[simp] theorem State.freeLane_pool (k : Nat) (kind : JobKind) : (s.freeLane k kind).pool = s.pool := rfl
@[simp] theorem State.freeLane_pwq (k : Nat) (kind : JobKind) : (s.freeLane k kind).pwq = s.pwq := rfl
@[simp] theorem State.freeLane_mpa (k : Nat) (kind : JobKind) : (s.freeLane k kind).mpa = s.mpa := rfl
@[simp] theorem State.freeLane_erw (k : Nat) (kind : JobKind) : (s.freeLane k kind).erw = s.erw := rfl
@[simp] theorem State.freeLane_ntw (k : Nat) (kind : JobKind) : (s.freeLane k kind).ntw = s.ntw := rfl
@[simp] theorem State.freeLane_mem (k : Nat) (kind : JobKind) : (s.freeLane k kind).mem = s.mem := rfl
@[simp] theorem State.freeLane_readData (k : Nat) (kind : JobKind) : (s.freeLane k kind).readData = s.readData := rfl
@[simp] theorem State.freeLane_openReads (k : Nat) (kind : JobKind) : (s.freeLane k kind).openReads = s.openReads := rfl
@[simp] theorem State.freeLane_fitted (k : Nat) (kind : JobKind) : (s.freeLane k kind).fitted = s.fitted := rfl
@[simp] theorem State.freeLane_pending (k : Nat) (kind : JobKind) : (s.freeLane k kind).pending = s.pending := rfl

/-! ### State.occupyLane -/
@[simp] theorem State.occupyLane_part (k : Nat) (r : Running) : (s.occupyLane k r).part = s.part := rfl
@[simp] theorem State.occupyLane_clocks (k : Nat) (r : Running) : (s.occupyLane k r).clocks = s.clocks := rfl
@[simp] theorem State.occupyLane_tsm (k : Nat) (r : Running) : (s.occupyLane k r).tsm = s.tsm := rfl
@[simp] theorem State.occupyLane_shadow (k : Nat) (r : Running) : (s.occupyLane k r).shadow = s.shadow := rfl
@[simp] theorem State.occupyLane_ffu (k : Nat) (r : Running) : (s.occupyLane k r).ffu = s.ffu := rfl
@[simp] theorem State.occupyLane_tags (k : Nat) (r : Running) : (s.occupyLane k r).tags = s.tags := rfl
@[simp] theorem State.occupyLane_pool (k : Nat) (r : Running) : (s.occupyLane k r).pool = s.pool := rfl
@[simp] theorem State.occupyLane_pwq (k : Nat) (r : Running) : (s.occupyLane k r).pwq = s.pwq := rfl
@[simp] theorem State.occupyLane_mpa (k : Nat) (r : Running) : (s.occupyLane k r).mpa = s.mpa := rfl
@[simp] theorem State.occupyLane_erw (k : Nat) (r : Running) : (s.occupyLane k r).erw = s.erw := rfl
@[simp] theorem State.occupyLane_ntw (k : Nat) (r : Running) : (s.occupyLane k r).ntw = s.ntw := rfl
@[simp] theorem State.occupyLane_mem (k : Nat) (r : Running) : (s.occupyLane k r).mem = s.mem := rfl
@[simp] theorem State.occupyLane_readData (k : Nat) (r : Running) : (s.occupyLane k r).readData = s.readData := rfl
@[simp] theorem State.occupyLane_openReads (k : Nat) (r : Running) : (s.occupyLane k r).openReads = s.openReads := rfl
@[simp] theorem State.occupyLane_fitted (k : Nat) (r : Running) : (s.occupyLane k r).fitted = s.fitted := rfl
@[simp] theorem State.occupyLane_pending (k : Nat) (r : Running) : (s.occupyLane k r).pending = s.pending := rfl

/-! ### State.dropLines -/
@[simp] theorem State.dropLines_part : (s.dropLines).part = s.part := rfl
@[simp] theorem State.dropLines_clocks : (s.dropLines).clocks = s.clocks := rfl
@[simp] theorem State.dropLines_tsm : (s.dropLines).tsm = s.tsm := rfl
@[simp] theorem State.dropLines_ctxs : (s.dropLines).ctxs = s.ctxs := rfl
@[simp] theorem State.dropLines_shadow : (s.dropLines).shadow = s.shadow := rfl
@[simp] theorem State.dropLines_ffu : (s.dropLines).ffu = s.ffu := rfl
@[simp] theorem State.dropLines_tags : (s.dropLines).tags = s.tags := rfl
@[simp] theorem State.dropLines_pool : (s.dropLines).pool = s.pool := rfl
@[simp] theorem State.dropLines_engine : (s.dropLines).engine = s.engine := rfl
@[simp] theorem State.dropLines_pwq : (s.dropLines).pwq = s.pwq := rfl
@[simp] theorem State.dropLines_mpa : (s.dropLines).mpa = s.mpa := rfl
@[simp] theorem State.dropLines_mem : (s.dropLines).mem = s.mem := rfl
@[simp] theorem State.dropLines_readData : (s.dropLines).readData = s.readData := rfl
@[simp] theorem State.dropLines_openReads : (s.dropLines).openReads = s.openReads := rfl
@[simp] theorem State.dropLines_fitted : (s.dropLines).fitted = s.fitted := rfl
@[simp] theorem State.dropLines_pending : (s.dropLines).pending = s.pending := rfl

/-! ### State.becomeIdle -/
@[simp] theorem State.becomeIdle_clocks : (s.becomeIdle).clocks = s.clocks := rfl
@[simp] theorem State.becomeIdle_tsm : (s.becomeIdle).tsm = s.tsm := rfl
@[simp] theorem State.becomeIdle_ctxs : (s.becomeIdle).ctxs = s.ctxs := rfl
@[simp] theorem State.becomeIdle_shadow : (s.becomeIdle).shadow = s.shadow := rfl
@[simp] theorem State.becomeIdle_ffu : (s.becomeIdle).ffu = s.ffu := rfl
@[simp] theorem State.becomeIdle_tags : (s.becomeIdle).tags = s.tags := rfl
@[simp] theorem State.becomeIdle_pool : (s.becomeIdle).pool = s.pool := rfl
@[simp] theorem State.becomeIdle_engine : (s.becomeIdle).engine = s.engine := rfl
@[simp] theorem State.becomeIdle_pwq : (s.becomeIdle).pwq = s.pwq := rfl
@[simp] theorem State.becomeIdle_mpa : (s.becomeIdle).mpa = s.mpa := rfl
@[simp] theorem State.becomeIdle_mem : (s.becomeIdle).mem = s.mem := rfl
@[simp] theorem State.becomeIdle_readData : (s.becomeIdle).readData = s.readData := rfl
@[simp] theorem State.becomeIdle_openReads : (s.becomeIdle).openReads = s.openReads := rfl
@[simp] theorem State.becomeIdle_fitted : (s.becomeIdle).fitted = s.fitted := rfl
@[simp] theorem State.becomeIdle_pending : (s.becomeIdle).pending = s.pending := rfl

/-! ### State.endFetches -/
@[simp] theorem State.endFetches_part : (s.endFetches).part = s.part := rfl
@[simp] theorem State.endFetches_clocks : (s.endFetches).clocks = s.clocks := rfl
@[simp] theorem State.endFetches_tsm : (s.endFetches).tsm = s.tsm := rfl
@[simp] theorem State.endFetches_ctxs : (s.endFetches).ctxs = s.ctxs := rfl
@[simp] theorem State.endFetches_shadow : (s.endFetches).shadow = s.shadow := rfl
@[simp] theorem State.endFetches_tags : (s.endFetches).tags = s.tags := rfl
@[simp] theorem State.endFetches_pool : (s.endFetches).pool = s.pool := rfl
@[simp] theorem State.endFetches_engine : (s.endFetches).engine = s.engine := rfl
@[simp] theorem State.endFetches_pwq : (s.endFetches).pwq = s.pwq := rfl
@[simp] theorem State.endFetches_mpa : (s.endFetches).mpa = s.mpa := rfl
@[simp] theorem State.endFetches_erw : (s.endFetches).erw = s.erw := rfl
@[simp] theorem State.endFetches_ntw : (s.endFetches).ntw = s.ntw := rfl
@[simp] theorem State.endFetches_mem : (s.endFetches).mem = s.mem := rfl
@[simp] theorem State.endFetches_readData : (s.endFetches).readData = s.readData := rfl
@[simp] theorem State.endFetches_openReads : (s.endFetches).openReads = s.openReads := rfl
@[simp] theorem State.endFetches_fitted : (s.endFetches).fitted = s.fitted := rfl
@[simp] theorem State.endFetches_pending : (s.endFetches).pending = s.pending := rfl

/-! ### State.snoop -/
@[simp] theorem State.snoop_part (offs : List (Nat × Byte)) : (s.snoop offs).part = s.part := rfl
@[simp] theorem State.snoop_clocks (offs : List (Nat × Byte)) : (s.snoop offs).clocks = s.clocks := rfl
@[simp] theorem State.snoop_tsm (offs : List (Nat × Byte)) : (s.snoop offs).tsm = s.tsm := rfl
@[simp] theorem State.snoop_ctxs (offs : List (Nat × Byte)) : (s.snoop offs).ctxs = s.ctxs := rfl
@[simp] theorem State.snoop_ffu (offs : List (Nat × Byte)) : (s.snoop offs).ffu = s.ffu := rfl
@[simp] theorem State.snoop_tags (offs : List (Nat × Byte)) : (s.snoop offs).tags = s.tags := rfl
@[simp] theorem State.snoop_pool (offs : List (Nat × Byte)) : (s.snoop offs).pool = s.pool := rfl
@[simp] theorem State.snoop_engine (offs : List (Nat × Byte)) : (s.snoop offs).engine = s.engine := rfl
@[simp] theorem State.snoop_pwq (offs : List (Nat × Byte)) : (s.snoop offs).pwq = s.pwq := rfl
@[simp] theorem State.snoop_mpa (offs : List (Nat × Byte)) : (s.snoop offs).mpa = s.mpa := rfl
@[simp] theorem State.snoop_erw (offs : List (Nat × Byte)) : (s.snoop offs).erw = s.erw := rfl
@[simp] theorem State.snoop_ntw (offs : List (Nat × Byte)) : (s.snoop offs).ntw = s.ntw := rfl
@[simp] theorem State.snoop_mem (offs : List (Nat × Byte)) : (s.snoop offs).mem = s.mem := rfl
@[simp] theorem State.snoop_readData (offs : List (Nat × Byte)) : (s.snoop offs).readData = s.readData := rfl
@[simp] theorem State.snoop_openReads (offs : List (Nat × Byte)) : (s.snoop offs).openReads = s.openReads := rfl
@[simp] theorem State.snoop_fitted (offs : List (Nat × Byte)) : (s.snoop offs).fitted = s.fitted := rfl
@[simp] theorem State.snoop_pending (offs : List (Nat × Byte)) : (s.snoop offs).pending = s.pending := rfl

/-! ### State.moveIngress -/
@[simp] theorem State.moveIngress_part (f steps : Nat) : (s.moveIngress f steps).part = s.part := rfl
@[simp] theorem State.moveIngress_tsm (f steps : Nat) : (s.moveIngress f steps).tsm = s.tsm := rfl
@[simp] theorem State.moveIngress_ctxs (f steps : Nat) : (s.moveIngress f steps).ctxs = s.ctxs := rfl
@[simp] theorem State.moveIngress_shadow (f steps : Nat) : (s.moveIngress f steps).shadow = s.shadow := rfl
@[simp] theorem State.moveIngress_ffu (f steps : Nat) : (s.moveIngress f steps).ffu = s.ffu := rfl
@[simp] theorem State.moveIngress_tags (f steps : Nat) : (s.moveIngress f steps).tags = s.tags := rfl
@[simp] theorem State.moveIngress_pool (f steps : Nat) : (s.moveIngress f steps).pool = s.pool := rfl
@[simp] theorem State.moveIngress_engine (f steps : Nat) : (s.moveIngress f steps).engine = s.engine := rfl
@[simp] theorem State.moveIngress_pwq (f steps : Nat) : (s.moveIngress f steps).pwq = s.pwq := rfl
@[simp] theorem State.moveIngress_mpa (f steps : Nat) : (s.moveIngress f steps).mpa = s.mpa := rfl
@[simp] theorem State.moveIngress_erw (f steps : Nat) : (s.moveIngress f steps).erw = s.erw := rfl
@[simp] theorem State.moveIngress_mem (f steps : Nat) : (s.moveIngress f steps).mem = s.mem := rfl
@[simp] theorem State.moveIngress_readData (f steps : Nat) : (s.moveIngress f steps).readData = s.readData := rfl
@[simp] theorem State.moveIngress_openReads (f steps : Nat) : (s.moveIngress f steps).openReads = s.openReads := rfl
@[simp] theorem State.moveIngress_fitted (f steps : Nat) : (s.moveIngress f steps).fitted = s.fitted := rfl
@[simp] theorem State.moveIngress_pending (f steps : Nat) : (s.moveIngress f steps).pending = s.pending := rfl

/-! ### State.moveEgress -/
@[simp] theorem State.moveEgress_part (f steps : Nat) : (s.moveEgress f steps).part = s.part := rfl
@[simp] theorem State.moveEgress_tsm (f steps : Nat) : (s.moveEgress f steps).tsm = s.tsm := rfl
@[simp] theorem State.moveEgress_ctxs (f steps : Nat) : (s.moveEgress f steps).ctxs = s.ctxs := rfl
@[simp] theorem State.moveEgress_shadow (f steps : Nat) : (s.moveEgress f steps).shadow = s.shadow := rfl
@[simp] theorem State.moveEgress_ffu (f steps : Nat) : (s.moveEgress f steps).ffu = s.ffu := rfl
@[simp] theorem State.moveEgress_tags (f steps : Nat) : (s.moveEgress f steps).tags = s.tags := rfl
@[simp] theorem State.moveEgress_pool (f steps : Nat) : (s.moveEgress f steps).pool = s.pool := rfl
@[simp] theorem State.moveEgress_engine (f steps : Nat) : (s.moveEgress f steps).engine = s.engine := rfl
@[simp] theorem State.moveEgress_pwq (f steps : Nat) : (s.moveEgress f steps).pwq = s.pwq := rfl
@[simp] theorem State.moveEgress_mpa (f steps : Nat) : (s.moveEgress f steps).mpa = s.mpa := rfl
@[simp] theorem State.moveEgress_erw (f steps : Nat) : (s.moveEgress f steps).erw = s.erw := rfl
@[simp] theorem State.moveEgress_ntw (f steps : Nat) : (s.moveEgress f steps).ntw = s.ntw := rfl
@[simp] theorem State.moveEgress_mem (f steps : Nat) : (s.moveEgress f steps).mem = s.mem := rfl
@[simp] theorem State.moveEgress_readData (f steps : Nat) : (s.moveEgress f steps).readData = s.readData := rfl
@[simp] theorem State.moveEgress_openReads (f steps : Nat) : (s.moveEgress f steps).openReads = s.openReads := rfl
@[simp] theorem State.moveEgress_fitted (f steps : Nat) : (s.moveEgress f steps).fitted = s.fitted := rfl
@[simp] theorem State.moveEgress_pending (f steps : Nat) : (s.moveEgress f steps).pending = s.pending := rfl

/-! ### State.fetchGoesOn -/
@[simp] theorem State.fetchGoesOn_part (f : Fetch) (phase : FetchPhase) : (s.fetchGoesOn f phase).part = s.part := rfl
@[simp] theorem State.fetchGoesOn_clocks (f : Fetch) (phase : FetchPhase) : (s.fetchGoesOn f phase).clocks = s.clocks := rfl
@[simp] theorem State.fetchGoesOn_tsm (f : Fetch) (phase : FetchPhase) : (s.fetchGoesOn f phase).tsm = s.tsm := rfl
@[simp] theorem State.fetchGoesOn_ctxs (f : Fetch) (phase : FetchPhase) : (s.fetchGoesOn f phase).ctxs = s.ctxs := rfl
@[simp] theorem State.fetchGoesOn_shadow (f : Fetch) (phase : FetchPhase) : (s.fetchGoesOn f phase).shadow = s.shadow := rfl
@[simp] theorem State.fetchGoesOn_tags (f : Fetch) (phase : FetchPhase) : (s.fetchGoesOn f phase).tags = s.tags := rfl
@[simp] theorem State.fetchGoesOn_pool (f : Fetch) (phase : FetchPhase) : (s.fetchGoesOn f phase).pool = s.pool := rfl
@[simp] theorem State.fetchGoesOn_engine (f : Fetch) (phase : FetchPhase) : (s.fetchGoesOn f phase).engine = s.engine := rfl
@[simp] theorem State.fetchGoesOn_pwq (f : Fetch) (phase : FetchPhase) : (s.fetchGoesOn f phase).pwq = s.pwq := rfl
@[simp] theorem State.fetchGoesOn_mpa (f : Fetch) (phase : FetchPhase) : (s.fetchGoesOn f phase).mpa = s.mpa := rfl
@[simp] theorem State.fetchGoesOn_erw (f : Fetch) (phase : FetchPhase) : (s.fetchGoesOn f phase).erw = s.erw := rfl
@[simp] theorem State.fetchGoesOn_ntw (f : Fetch) (phase : FetchPhase) : (s.fetchGoesOn f phase).ntw = s.ntw := rfl
@[simp] theorem State.fetchGoesOn_mem (f : Fetch) (phase : FetchPhase) : (s.fetchGoesOn f phase).mem = s.mem := rfl
@[simp] theorem State.fetchGoesOn_readData (f : Fetch) (phase : FetchPhase) : (s.fetchGoesOn f phase).readData = s.readData := rfl
@[simp] theorem State.fetchGoesOn_openReads (f : Fetch) (phase : FetchPhase) : (s.fetchGoesOn f phase).openReads = s.openReads := rfl
@[simp] theorem State.fetchGoesOn_fitted (f : Fetch) (phase : FetchPhase) : (s.fetchGoesOn f phase).fitted = s.fitted := rfl
@[simp] theorem State.fetchGoesOn_pending (f : Fetch) (phase : FetchPhase) : (s.fetchGoesOn f phase).pending = s.pending := rfl

/-! ### State.fetchDone -/
@[simp] theorem State.fetchDone_part (f : Fetch) : (s.fetchDone f).part = s.part := rfl
@[simp] theorem State.fetchDone_clocks (f : Fetch) : (s.fetchDone f).clocks = s.clocks := rfl
@[simp] theorem State.fetchDone_tsm (f : Fetch) : (s.fetchDone f).tsm = s.tsm := rfl
@[simp] theorem State.fetchDone_ctxs (f : Fetch) : (s.fetchDone f).ctxs = s.ctxs := rfl
@[simp] theorem State.fetchDone_shadow (f : Fetch) : (s.fetchDone f).shadow = s.shadow := rfl
@[simp] theorem State.fetchDone_tags (f : Fetch) : (s.fetchDone f).tags = s.tags := rfl
@[simp] theorem State.fetchDone_pool (f : Fetch) : (s.fetchDone f).pool = s.pool := rfl
@[simp] theorem State.fetchDone_engine (f : Fetch) : (s.fetchDone f).engine = s.engine := rfl
@[simp] theorem State.fetchDone_pwq (f : Fetch) : (s.fetchDone f).pwq = s.pwq := rfl
@[simp] theorem State.fetchDone_mpa (f : Fetch) : (s.fetchDone f).mpa = s.mpa := rfl
@[simp] theorem State.fetchDone_erw (f : Fetch) : (s.fetchDone f).erw = s.erw := rfl
@[simp] theorem State.fetchDone_ntw (f : Fetch) : (s.fetchDone f).ntw = s.ntw := rfl
@[simp] theorem State.fetchDone_mem (f : Fetch) : (s.fetchDone f).mem = s.mem := rfl
@[simp] theorem State.fetchDone_readData (f : Fetch) : (s.fetchDone f).readData = s.readData := rfl
@[simp] theorem State.fetchDone_openReads (f : Fetch) : (s.fetchDone f).openReads = s.openReads := rfl
@[simp] theorem State.fetchDone_fitted (f : Fetch) : (s.fetchDone f).fitted = s.fitted := rfl
@[simp] theorem State.fetchDone_pending (f : Fetch) : (s.fetchDone f).pending = s.pending := rfl

/-! ### State.writeThrough -/
@[simp] theorem State.writeThrough_part (cells : List (Nat × Byte)) : (s.writeThrough cells).part = s.part := rfl
@[simp] theorem State.writeThrough_clocks (cells : List (Nat × Byte)) : (s.writeThrough cells).clocks = s.clocks := rfl
@[simp] theorem State.writeThrough_tsm (cells : List (Nat × Byte)) : (s.writeThrough cells).tsm = s.tsm := rfl
@[simp] theorem State.writeThrough_ctxs (cells : List (Nat × Byte)) : (s.writeThrough cells).ctxs = s.ctxs := rfl
@[simp] theorem State.writeThrough_shadow (cells : List (Nat × Byte)) : (s.writeThrough cells).shadow = s.shadow := rfl
@[simp] theorem State.writeThrough_ffu (cells : List (Nat × Byte)) : (s.writeThrough cells).ffu = s.ffu := rfl
@[simp] theorem State.writeThrough_tags (cells : List (Nat × Byte)) : (s.writeThrough cells).tags = s.tags := rfl
@[simp] theorem State.writeThrough_pool (cells : List (Nat × Byte)) : (s.writeThrough cells).pool = s.pool := rfl
@[simp] theorem State.writeThrough_engine (cells : List (Nat × Byte)) : (s.writeThrough cells).engine = s.engine := rfl
@[simp] theorem State.writeThrough_erw (cells : List (Nat × Byte)) : (s.writeThrough cells).erw = s.erw := rfl
@[simp] theorem State.writeThrough_ntw (cells : List (Nat × Byte)) : (s.writeThrough cells).ntw = s.ntw := rfl
@[simp] theorem State.writeThrough_readData (cells : List (Nat × Byte)) : (s.writeThrough cells).readData = s.readData := rfl
@[simp] theorem State.writeThrough_openReads (cells : List (Nat × Byte)) : (s.writeThrough cells).openReads = s.openReads := rfl
@[simp] theorem State.writeThrough_fitted (cells : List (Nat × Byte)) : (s.writeThrough cells).fitted = s.fitted := rfl
@[simp] theorem State.writeThrough_pending (cells : List (Nat × Byte)) : (s.writeThrough cells).pending = s.pending := rfl

/-! ### The written fields -/
@[simp] theorem State.setCtx_ctxs (k : Nat) (c : Context) : (s.setCtx k c).ctxs = s.ctxs.set k c := rfl
@[simp] theorem State.modCtx_ctxs (k : Nat) (f : Context → Context) : (s.modCtx k f).ctxs = s.ctxs.set k (f (s.ctx k)) := rfl
@[simp] theorem State.requestGroup_pwq (g : Group) :
    (s.requestGroup g).pwq = { s.pwq with waiting := s.pwq.waiting ++ [g] } := rfl
@[simp] theorem State.requestJob_engine (k : Nat) (kind : JobKind) :
    (s.requestJob k kind).engine = { s.engine with jobs := s.engine.jobs ++ [Job.mk k kind] } := rfl
@[simp] theorem State.withdrawJob_engine (k : Nat) (kind : JobKind) :
    (s.withdrawJob k kind).engine = { s.engine with jobs := s.engine.jobs.filter (· != Job.mk k kind) } := rfl
@[simp] theorem State.snoop_shadow (offs : List (Nat × Byte)) : (s.snoop offs).shadow = Memory.putAll s.shadow offs := rfl
@[simp] theorem State.countMasterGrant_mpa : s.countMasterGrant.mpa = s.mpa.afterMaster := rfl
@[simp] theorem State.countDrainGrant_mpa : s.countDrainGrant.mpa = { s.mpa with drainCount := 0 } := rfl
@[simp] theorem State.countFetchGrant_mpa : s.countFetchGrant.mpa = { s.mpa with fetchCount := 0 } := rfl
@[simp] theorem State.supersede_pwq (cells : List (Nat × Byte)) :
    (s.supersede cells).pwq =
      { s.pwq with entries := (s.pwq.entries.map (QWord.strip cells)).filter QWord.enabled } := rfl
@[simp] theorem State.endFetches_ffu : s.endFetches.ffu = { queue := [], buffer := none, overrun := false } := rfl

/-! ### Values that follow from `part` alone -/
theorem State.win_congr {s t : State} (h : t.part = s.part) : t.win = s.win := by simp [State.win, h]
theorem State.controlBase_congr {s t : State} (h : t.part = s.part) : t.controlBase = s.controlBase := by
  simp [State.controlBase, h]
theorem State.memBytes_congr {s t : State} (h : t.part = s.part) : t.memBytes = s.memBytes := by simp [State.memBytes, h]

/-! ### Records -/
theorem State.ctx_setCtx_self {k : Nat} (c : Context) (h : k < s.ctxs.length) : (s.setCtx k c).ctx k = c := by
  simp [State.ctx, h]
theorem State.ctx_setCtx_of_ne {k j : Nat} (c : Context) (h : j ≠ k) : (s.setCtx k c).ctx j = s.ctx j := by
  simp [State.ctx, List.getD_eq_getElem?_getD, h.symm]
theorem State.ctx_of_length_le {k : Nat} (h : s.ctxs.length ≤ k) : s.ctx k = Context.cleared := by
  simp [State.ctx, List.getD_eq_getElem?_getD, h]
theorem State.setCtx_ctx (k : Nat) : s.setCtx k (s.ctx k) = s := by
  rcases Nat.lt_or_ge k s.ctxs.length with h | h
  · simp [State.setCtx, State.ctx, h]
  · simp [State.setCtx, List.set_eq_of_length_le h]

end Sys2Proof.Machine
end

