-- ==== Sys2Proof/Laws/Operations.lean ====
section
/-! SUPPORT. What the shared operations can do, said once: settling, waiting for a grant, and every way a step goes on. -/
namespace Sys2Proof.Machine

/-! ### Settling (R134, R152, R169) -/

theorem State.settleUpTo_of_settled {s : State} (h : s.settled) (n : Nat) : State.settleUpTo n s = s := by
  have h' : s.dueStep = none := h
  cases n <;> simp [State.settleUpTo, h']

theorem State.settle_of_settled {s : State} (h : s.settled) : s.settle = s := State.settleUpTo_of_settled h _

/-- Settling is a run of due steps: what each of them keeps, settling keeps. -/
theorem State.settle_keeps {P : State → Prop} (due : ∀ s d, s.dueStep = some d → P s → P (s.takeDue d)) {s : State} (h : P s) :
    P s.settle := by
  suffices ∀ n s, P s → P (State.settleUpTo n s) from this _ _ h
  intro n
  induction n with
  | zero => exact fun _ h => h
  | succ n ih =>
    intro s h
    simp only [State.settleUpTo]
    split
    · exact h
    · exact ih _ (due _ _ ‹_› h)

/-- The cases of a due step: which one is due, and why. -/
theorem State.dueStep_cases {s : State} {d : DueStep} (h : s.dueStep = some d) :
    (∃ g rest, s.pwq.waiting = g :: rest ∧
      ((d = .discard ∧ s.groupClosing g = true) ∨
        (d = .admission ∧ s.groupClosing g = false ∧ s.pwq.entries.length + g.size ≤ 64))) ∨
      (d = .quiet ∧ s.quietDue = true) ∨ ∃ j, d = .start j ∧ s.chosenJob = some j := by
  simp only [State.dueStep] at h
  split at h
  · rename_i d' hd
    cases h
    refine Or.inl ?_
    simp only [State.dueGroup] at hd
    split at hd
    · cases hd
    · rename_i g rest hw
      refine ⟨g, rest, hw, ?_⟩
      split at hd
      · cases hd; exact Or.inl ⟨rfl, ‹_›⟩
      · split at hd
        · cases hd; exact Or.inr ⟨rfl, by rename_i hc _; simpa using hc, ‹_›⟩
        · cases hd
  · refine Or.inr ?_
    split at h
    · cases h; exact Or.inl ⟨rfl, ‹_›⟩
    · cases hj : s.chosenJob with
      | none => simp [hj] at h
      | some j => simp only [hj, Option.map_some, Option.some.injEq] at h; exact Or.inr ⟨j, h.symm, rfl⟩

/-! ### Waiting for a grant (R149) -/

theorem State.awaitUpTo_of_choice {s : State} {who : Claimant} (h : s.settled)
    (hc : s.portChoice (decide (who = .master)) = some who) (n : Nat) : State.awaitUpTo who n s = s := by
  cases n <;> simp [State.awaitUpTo, State.settle_of_settled h, hc]

theorem State.await_of_masterTurn {s : State} (h : s.masterTurn) : s.await .master = s :=
  State.awaitUpTo_of_choice h.1 (by simpa using h.2) _

theorem State.await_of_queueTurn {s : State} (h : s.queueTurn) : s.await .pwq = s :=
  State.awaitUpTo_of_choice h.1 (by simpa using h.2) _

theorem State.await_of_fetchTurn {s : State} (h : s.fetchTurn) : s.await .ffu = s :=
  State.awaitUpTo_of_choice h.1 (by simpa using h.2) _

/-- Waiting is a run of due steps and of grants to the part's own claimants. -/
theorem State.await_keeps {P : State → Prop} (due : ∀ s d, s.dueStep = some d → P s → P (s.takeDue d))
    (drain : ∀ s, P s → P s.drainGrant) (fetch : ∀ s, P s → P s.fetchGrant) {s : State} (who : Claimant) (h : P s) :
    P (s.await who) := by
  suffices ∀ n s, P s → P (State.awaitUpTo who n s) from this _ _ h
  intro n
  induction n with
  | zero => exact fun s h => State.settle_keeps due h
  | succ n ih =>
    intro s h
    have hs := State.settle_keeps due h
    simp only [State.awaitUpTo]
    split
    · exact hs
    · rename_i c _
      split
      · exact hs
      · apply ih
        cases c with
        | master => exact hs
        | pwq => exact drain _ hs
        | ffu => exact fetch _ hs

/-! ### Advances (R64) -/

/-- The positions an advance of fewer than 160 steps passes (R64). -/
theorem passes_iff {p k b : Nat} (hb : b < 160) (hk : k < 160) :
    passes p k b = true ↔ ∃ i, 1 ≤ i ∧ i ≤ k ∧ (p + i) % 160 = b := by
  simp only [passes, decide_eq_true_eq]
  constructor
  · intro h
    exact ⟨(b + 160 - (p + 1) % 160) % 160 + 1, by omega, by omega, by omega⟩
  · rintro ⟨i, h1, h2, h3⟩
    omega

/-- The contexts a boundary concerns (R64). -/
theorem State.mem_ctxsWhere {s : State} {f : Context → Bool} {k : Nat} :
    k ∈ s.ctxsWhere f ↔ k < s.ctxs.length ∧ f (s.ctx k) = true := by
  simp only [State.ctxsWhere, State.ctx, List.mem_map, List.mem_filter, List.mem_zipIdx_iff_getElem?, Prod.exists]
  constructor
  · rintro ⟨c, i, ⟨h, hf⟩, rfl⟩
    obtain ⟨hi, rfl⟩ := List.getElem?_eq_some_iff.mp h
    exact ⟨hi, by simpa [hi] using hf⟩
  · rintro ⟨hk, hf⟩
    exact ⟨s.ctxs[k], k, ⟨by simp [hk], by simpa [hk] using hf⟩, rfl⟩

theorem State.nodup_ctxsWhere (s : State) (f : Context → Bool) : (s.ctxsWhere f).Nodup := by
  have h : (s.ctxs.zipIdx.map (·.2)).Nodup := by
    rw [List.zipIdx_map_snd]; exact List.nodup_range'
  exact h.sublist (List.filter_sublist.map _)

/-! ### Notices (R167) and the LOW flag (R124) -/

/-- A notice request touches the notice writer and the order of waiting groups alone. -/
theorem State.placeNotice_frame (s : State) (kind : NoticeKind) (ctx detail : Nat) (l : List Nat) :
    s.placeNotice kind ctx detail l = { s with
      ntw := (s.placeNotice kind ctx detail l).ntw
      pwq := { s.pwq with waiting := (s.placeNotice kind ctx detail l).pwq.waiting } } := by
  simp only [State.placeNotice]; split <;> rfl

theorem State.placeNotice_pool (s : State) (kind : NoticeKind) (ctx detail : Nat) (l : List Nat) :
    (s.placeNotice kind ctx detail l).pool = s.pool := by
  simp only [State.placeNotice]; split <;> rfl

theorem State.placeNotice_ntw_of_pool (s : State) (p : Pool) (kind : NoticeKind) (ctx detail : Nat) (l : List Nat) :
    ({ s with pool := p }.placeNotice kind ctx detail l).ntw = (s.placeNotice kind ctx detail l).ntw := by
  simp only [State.placeNotice, apply_ite State.ntw]; rfl

theorem State.placeNotice_pwq_of_pool (s : State) (p : Pool) (kind : NoticeKind) (ctx detail : Nat) (l : List Nat) :
    ({ s with pool := p }.placeNotice kind ctx detail l).pwq = (s.placeNotice kind ctx detail l).pwq := by
  simp only [State.placeNotice, apply_ite State.pwq]; rfl

/-- What an examination of LOW does after any change of the free count. -/
theorem State.examineLow_becomes (s : State) (free : Nat) :
    s.poolBecomes ({ s with pool := { s.pool with free := free } }).examineLow free := by
  cases hl : s.pool.low
  · by_cases h : free < 512
    · have h' : ¬ 512 ≤ free := by omega
      simp [State.poolBecomes, State.examineLow, hl, h, h', State.placeNotice_pool, State.placeNotice_ntw_of_pool,
        State.placeNotice_pwq_of_pool, noCounters, partWide]
    · have h' : 512 ≤ free := by omega
      simp [State.poolBecomes, State.examineLow, hl, h, h']
  · by_cases h : 1024 ≤ free
    · have h' : ¬ free < 1024 := by omega
      simp [State.poolBecomes, State.examineLow, hl, h, h', State.placeNotice_pool, State.placeNotice_ntw_of_pool,
        State.placeNotice_pwq_of_pool, noCounters, partWide]
    · have h' : free < 1024 := by omega
      simp [State.poolBecomes, State.examineLow, hl, h, h']

theorem State.returnBlocks_becomes (s : State) (n : Nat) : s.poolBecomes (s.returnBlocks n) (s.pool.free + n) :=
  s.examineLow_becomes _

theorem State.takeBlocks_becomes (s : State) (n : Nat) : s.poolBecomes (s.takeBlocks n) (s.pool.free - n) :=
  s.examineLow_becomes _

/-- An examination of LOW gives its law whatever the flag was. -/
theorem State.examineLow_lowLaw (s : State) : s.examineLow.lowLaw := by
  cases hl : s.pool.low
  · by_cases h : s.pool.free < 512
    · simp [State.lowLaw, State.examineLow, hl, h, State.placeNotice_pool]; omega
    · simp [State.lowLaw, State.examineLow, hl, h]; omega
  · by_cases h : 1024 ≤ s.pool.free
    · simp [State.lowLaw, State.examineLow, hl, h, State.placeNotice_pool]; omega
    · simp [State.lowLaw, State.examineLow, hl, h]; omega

theorem countsAfter_cons (free : Nat) (e : PlayEntry) (es : List PlayEntry) :
    countsAfter free (e :: es) = (free + e.blocks) :: countsAfter (free + e.blocks) es := by
  simp [countsAfter, List.range_succ_eq_map, Function.comp_def, Nat.add_assoc]

theorem State.returnBlocks_frame (s : State) (n : Nat) :
    s.returnBlocks n =
      { s with pool := (s.returnBlocks n).pool, ntw := (s.returnBlocks n).ntw, pwq := (s.returnBlocks n).pwq } := by
  simp only [State.returnBlocks, State.examineLow, State.placeNotice]
  repeat' split
  all_goals rfl

/-- Entries that return their blocks one after another, the flag examined after each. -/
theorem State.returnEach_poolPasses (es : List PlayEntry) (s : State) :
    s.poolPasses (es.foldl (fun s e => s.returnBlocks e.blocks) s) (countsAfter s.pool.free es) := by
  induction es generalizing s with
  | nil => rfl
  | cons e es ih =>
    rw [countsAfter_cons]
    refine ⟨s.returnBlocks e.blocks, s.returnBlocks_frame _, s.returnBlocks_becomes _, ?_⟩
    rw [← (s.returnBlocks_becomes e.blocks).1]
    exact ih _

/-! ### Master accesses -/

theorem masterWriteAccess_of_turn {s : State} {b : WriteBurst} (hb : b.wf = true) (h : s.masterTurn) :
    masterWriteAccess b s = .next (s.grantWrite b) := by
  simp [masterWriteAccess, hb, State.await_of_masterTurn h]

theorem masterReadAccess_of_turn {s : State} {b : ReadBurst} (hb : b.wf = true) (h : s.masterTurn) :
    masterReadAccess b s = .next (s.grantRead b) := by
  simp [masterReadAccess, hb, State.await_of_masterTurn h]

theorem masterWriteAccess_next {s t : State} {b : WriteBurst} (h : masterWriteAccess b s = .next t) :
    b.wf = true ∧ t = (s.await .master).grantWrite b := by
  simp only [masterWriteAccess] at h
  split at h
  · exact ⟨‹_›, by cases h; rfl⟩
  · cases h

theorem masterReadAccess_next {s t : State} {b : ReadBurst} (h : masterReadAccess b s = .next t) :
    b.wf = true ∧ t = (s.await .master).grantRead b := by
  simp only [masterReadAccess] at h
  split at h
  · exact ⟨‹_›, by cases h; rfl⟩
  · cases h

/-- The area of an access looks at nothing that a write through to memory changes. -/
theorem State.areaOf_congr {s t : State} (h : t.part = s.part) (a : Nat) : t.areaOf a = s.areaOf a := by
  cases s
  cases t
  cases h
  rfl

/-! ### Every way a step goes on -/

/-- What the due steps, the three kinds of grant, the ends of work and the two resets keep, every command keeps. -/
theorem exec_keeps {P : State → Prop} (due : ∀ s d, s.dueStep = some d → P s → P (s.takeDue d))
    (drain : ∀ s, P s → P s.drainGrant) (fetch : ∀ s, P s → P s.fetchGrant)
    (write : ∀ s b, b.wf = true → P s → P (s.grantWrite b)) (read : ∀ s b, b.wf = true → P s → P (s.grantRead b))
    (encodeEnd : ∀ s k, P s → P (s.encodeEnd k)) (decodeEnd : ∀ s k, P s → P (s.decodeEnd k))
    (power : ∀ s c m, P s → P (s.powerOnClear c m)) (pin : ∀ s c m, P s → P (s.pinReset c m))
    (i : Instr) {s t : State} (h : exec i s = .next t) (hs : P s) : P t := by
  have hset := State.settle_keeps due hs
  have hw : ∀ {b : WriteBurst}, masterWriteAccess b s = .next t → P t := by
    intro b h
    obtain ⟨hb, rfl⟩ := masterWriteAccess_next h
    exact write _ _ hb (State.await_keeps due drain fetch _ hs)
  have hr : ∀ {b : ReadBurst}, masterReadAccess b s = .next t → P t := by
    intro b h
    obtain ⟨hb, rfl⟩ := masterReadAccess_next h
    exact read _ _ hb (State.await_keeps due drain fetch _ hs)
  cases i <;> simp only [exec] at h
  case powerOnClear c m => cases h; exact power _ _ _ hs
  case pinReset c m => cases h; exact pin _ _ _ hs
  case egressPcmRead b => exact hr h
  case masterRead b => exact hr h
  case drain =>
    simp only [execDrain] at h
    split at h <;> cases h
    · exact hset
    · exact drain _ (State.await_keeps due drain fetch _ hset)
  case fetchHeaderRead =>
    simp only [execFetchHeaderRead] at h
    split at h <;> cases h
    · exact fetch _ (State.await_keeps due drain fetch _ hset)
    · exact hset
  case fetchBodyRead =>
    simp only [execFetchBodyRead] at h
    split at h <;> cases h
    · exact fetch _ (State.await_keeps due drain fetch _ hset)
    · exact hset
  case encodeJobStart =>
    simp only [execEncodeJobStart] at h
    split at h <;> cases h
    · exact due _ _ ‹_› hs
    · exact hs
  case decodeJobStart =>
    simp only [execDecodeJobStart] at h
    split at h <;> cases h
    · exact due _ _ ‹_› hs
    · exact hs
  case encodeEndOfWork k => cases h; exact encodeEnd _ _ hset
  case decodeJobCompletion k => cases h; exact decodeEnd _ _ hset
  case groupAdmission =>
    simp only [execGroupAdmission] at h
    split at h <;> cases h
    · exact due _ _ ‹_› hs
    · exact hs
  case groupDiscard =>
    simp only [execGroupDiscard] at h
    split at h <;> cases h
    · exact due _ _ ‹_› hs
    · exact hs
  case quietTimeout =>
    simp only [execQuietTimeout] at h
    split at h <;> cases h
    · exact due _ _ ‹_› hs
    · exact hs
  all_goals exact hw h

/-- What those events keep, and what does not look at the queue of commands, every step keeps. -/
theorem step_keeps {P : State → Prop} (pending : ∀ s l, P s → P { s with pending := l })
    (due : ∀ s d, s.dueStep = some d → P s → P (s.takeDue d))
    (drain : ∀ s, P s → P s.drainGrant) (fetch : ∀ s, P s → P s.fetchGrant)
    (write : ∀ s b, b.wf = true → P s → P (s.grantWrite b)) (read : ∀ s b, b.wf = true → P s → P (s.grantRead b))
    (encodeEnd : ∀ s k, P s → P (s.encodeEnd k)) (decodeEnd : ∀ s k, P s → P (s.decodeEnd k))
    (power : ∀ s c m, P s → P (s.powerOnClear c m)) (pin : ∀ s c m, P s → P (s.pinReset c m))
    {s t : State} (h : step s = .next t) (hs : P s) : P t := by
  simp only [step] at h
  split at h
  · cases h; exact State.settle_keeps due hs
  · exact exec_keeps due drain fetch write read encodeEnd decodeEnd power pin _ h (pending _ _ hs)

end Sys2Proof.Machine
end

