-- ==== Sys2Proof/Laws/Access.lean ====
section
/-! SUPPORT. What a granted master access comes to, by its area (R58, R73 to R76). -/
namespace Sys2Proof.Machine

theorem State.grantWrite_of_passed {s : State} {b : WriteBurst}
    (h : s.areaOf b.addr.toNat = .plain ∨ s.areaOf b.addr.toNat = .egressPcm) :
    s.grantWrite b = s.writeThrough (burstCells b) := by
  have e : (s.writeThrough (burstCells b)).areaOf b.addr.toNat = s.areaOf b.addr.toNat := State.areaOf_congr rfl _
  rcases h with h | h <;> simp [State.grantWrite, State.writeEffect, e, h]

theorem State.grantWrite_of_ingress {s : State} {b : WriteBurst} (h : s.areaOf b.addr.toNat = .ingressPcm) :
    s.grantWrite b = (s.writeThrough (burstCells b)).ingressWrite b.addr.toNat (burstCells b) := by
  have e : (s.writeThrough (burstCells b)).areaOf b.addr.toNat = s.areaOf b.addr.toNat := State.areaOf_congr rfl _
  simp [State.grantWrite, State.writeEffect, e, h]

theorem State.grantWrite_of_mobileIngress {s : State} {b : WriteBurst} (h : s.areaOf b.addr.toNat = .mobileIngress) :
    s.grantWrite b = (s.writeThrough (burstCells b)).mobileIngress b.addr.toNat (burstCells b) := by
  have e : (s.writeThrough (burstCells b)).areaOf b.addr.toNat = s.areaOf b.addr.toNat := State.areaOf_congr rfl _
  simp [State.grantWrite, State.writeEffect, e, h]

/-- A control-area write goes into the shadow, and then runs the command it includes or hands on its consumer words. -/
theorem State.grantWrite_of_control {s : State} {b : WriteBurst} (h : s.areaOf b.addr.toNat = .control) :
    s.grantWrite b =
      match includedCommand (s.controlCells (burstCells b)) with
      | some w => (s.written b).runCommand w
      | none => (s.written b).consumerWrites (s.controlCells (burstCells b)) := by
  have e : (s.writeThrough (burstCells b)).areaOf b.addr.toNat = s.areaOf b.addr.toNat := State.areaOf_congr rfl _
  simp only [State.grantWrite, State.writeEffect, e, h, State.controlWrite]
  rfl

/-- A write with a command in it comes to the command, run on what the write leaves. -/
theorem CommandGrant.write {s : State} {b : WriteBurst} {w : CommandWord} {code tag : Byte}
    (h : CommandGrant s b w code tag) : masterWriteAccess b s = .next ((s.written b).runCommand w) := by
  obtain ⟨hb, ht, ha, hw, _⟩ := h
  rw [masterWriteAccess_of_turn hb ht, State.grantWrite_of_control ha, hw]

theorem CommandGrant.context {s : State} {b : WriteBurst} {k : Nat} {code tag : Byte}
    (h : CommandGrant s b (.context k) code tag) :
    masterWriteAccess b s = .next ((s.written b).contextCommand k code tag) := by
  rw [h.write]
  simp [State.runCommand, ← h.2.2.2.2.1, ← h.2.2.2.2.2, CommandWord.offset]

theorem CommandGrant.control {s : State} {b : WriteBurst} {code tag : Byte}
    (h : CommandGrant s b .control code tag) :
    masterWriteAccess b s = .next ((s.written b).controlCommand code tag) := by
  rw [h.write]
  simp [State.runCommand, ← h.2.2.2.2.1, ← h.2.2.2.2.2, CommandWord.offset]

/-- A command word's context number is a context's. -/
theorem CommandGrant.context_lt {s : State} {b : WriteBurst} {k : Nat} {code tag : Byte}
    (h : CommandGrant s b (.context k) code tag) : k < 384 := by
  have hw := h.2.2.2.1
  rw [includedCommand, List.findSome?_eq_some_iff] at hw
  obtain ⟨_, c, _, _, hc, _⟩ := hw
  simp only [commandWordAt] at hc
  split at hc
  · cases hc
  · split at hc
    · simp only [Option.some.injEq, CommandWord.context.injEq] at hc; omega
    · cases hc

@[simp] theorem State.written_part (s : State) (b : WriteBurst) : (s.written b).part = s.part := rfl
@[simp] theorem State.written_clocks (s : State) (b : WriteBurst) : (s.written b).clocks = s.clocks := rfl
@[simp] theorem State.written_tsm (s : State) (b : WriteBurst) : (s.written b).tsm = s.tsm := rfl
@[simp] theorem State.written_ctxs (s : State) (b : WriteBurst) : (s.written b).ctxs = s.ctxs := rfl
@[simp] theorem State.written_ctx (s : State) (b : WriteBurst) (k : Nat) : (s.written b).ctx k = s.ctx k := rfl
@[simp] theorem State.written_ffu (s : State) (b : WriteBurst) : (s.written b).ffu = s.ffu := rfl
@[simp] theorem State.written_tags (s : State) (b : WriteBurst) : (s.written b).tags = s.tags := rfl
@[simp] theorem State.written_pool (s : State) (b : WriteBurst) : (s.written b).pool = s.pool := rfl
@[simp] theorem State.written_engine (s : State) (b : WriteBurst) : (s.written b).engine = s.engine := rfl
@[simp] theorem State.written_waiting (s : State) (b : WriteBurst) : (s.written b).pwq.waiting = s.pwq.waiting := rfl
@[simp] theorem State.written_mpa (s : State) (b : WriteBurst) : (s.written b).mpa = s.mpa.afterMaster := rfl
@[simp] theorem State.written_erw (s : State) (b : WriteBurst) : (s.written b).erw = s.erw := rfl
@[simp] theorem State.written_ntw (s : State) (b : WriteBurst) : (s.written b).ntw = s.ntw := rfl
@[simp] theorem State.written_pending (s : State) (b : WriteBurst) : (s.written b).pending = s.pending := rfl

end Sys2Proof.Machine
end

