-- ==== Sys2Proof/Tests/Slice0.lean ====
section
/-! SUPPORT. Tests: the well-formedness smoke, values and tables the manual prints, one step of every command, and a witness
for the hypotheses of every statement that has any. Each test names the example or rule its expected result comes from. -/
namespace Sys2Proof.Tests
open Sys2Proof.Machine
set_option Elab.async false

/-! ### Small states and operands -/

/-- A write burst of whole words. -/
def wordsTo (addr : Nat) (bytes : List Byte) : WriteBurst := { addr := BitVec.ofNat 28 addr, words := bytesToWords bytes }

/-- A write burst of one enabled byte, in lane 0 of its word. -/
def byteTo (addr : Nat) (v : Byte) : WriteBurst :=
  { addr := BitVec.ofNat 28 addr, words := [{ b0 := some v, b1 := none, b2 := none, b3 := none }] }

/-- A read burst. -/
def readFrom (addr count : Nat) : ReadBurst := { addr := BitVec.ofNat 28 addr, count := count }

/-- The outcome is a next state with a property. -/
def leads (o : Host.Outcome State Fault Refusal) (p : State → Bool) : Bool :=
  match o with
  | .next t => p t
  | .fault _ => false
  | .refused _ => false

/-- The layout of example 11.7 as accepted. -/
def layout : Windows :=
  { ingressBase := 0x200000, egressBase := 0x200400, slots := 64, frames := 16, mobInBase := 0x110000, ni := 64,
    mobOutBase := 0x100000, ne := 64, noticeBase := 0x120000, nn := 128 }

/-- The control area of example 11.7. -/
abbrev area : Nat := 0x7F8000

/-- A word of the control area. -/
def word0 : QWord := { addr := area, lanes := fullWord 0 0 0 0 }

/-- The card of example 11.7 after power-on. -/
def card : State := { State.reset with part := { State.reset.part with cbBase := 0xFF, memSize := 3 } }

/-- The card RUNNING. -/
def live : State := { card with part := { card.part with state := .running, windows := some layout } }

/-- A call of both directions on timeslot 8 (example 11.7 event 4), with a few settings of example 3.8. -/
def callCfg : Captured :=
  { Captured.cleared with
    uplink := true, downlink := true, inSlot := 8, outSlot := 8, tag := 500, allowed := 7, request := 3, dtx := true
    hangover := 2, tOn := 8, h := 3, q := 4, d := 2 }

/-- A context of the call, with the codes and coder fields given by the reset. -/
def callCtx : Context := { Context.cleared with cfg := callCfg, state := .active, runningJobs := 0, nReady := true }

/-- The RUNNING card with context 0 open. -/
def call : State :=
  { live with
    ctxs := live.ctxs.set 0 callCtx
    tsm := { taps := live.tsm.taps.set 8 [0], claims := live.tsm.claims.set 8 [0] }
    tags := [(500, 0)] }

/-- The call with context 0 changed. -/
def callWith (f : Context → Context) : State := { call with ctxs := live.ctxs.set 0 (f callCtx) }

/-- A running encode job of context 0 in DTX state `dtx`, of 160 codes 0D5H. -/
def encodeOf (dtx : DtxState) (active : Bool) : EncodeJob :=
  { ctx := 0, codes := List.replicate 160 0xD5, seq := 57, talkSeen := active, inLevel := 0, outLevel := 0, outTalk := .quiet,
    law := .seg13, uplink := true, downlink := true, dtx := true, hangover := 2, echoShift := 0, margin := 0, tmplLen := 0,
    tmpl := List.replicate 8 0, enc := { recon := 0, xPrev := 0, dtx := dtx }, mode := .a4, request := 1, waiting := false }

/-- A running decode job of context 0 that took nothing. -/
def decodeOf : DecodeJob := { ctx := 0, taken := none, p := callCtx.p, law := .seg13, dec := callCtx.dec }

/-- The call with context 0 in a state, with running jobs. -/
def callRunning (state : CtxState) (rs : List Running) : State :=
  { callWith (fun c => { c with state := state, runningJobs := rs.length }) with engine := { jobs := [], running := rs } }

/-- The descriptor of context 0 as the shadow of the card holds it. -/
def described (s : State) (bytes : List Byte) : State :=
  { s with shadow := Memory.putAll [] (wordCells 0x408 (bytesToWords bytes)) }

/-- The fields 08H to 27H of a descriptor: law 0, both directions, DTX, timeslot 8 on both sides, tag 500, sets and clamps of
example 6.11. -/
def fields : List Byte :=
  [0, 3, 0, 1, 8, 0, 8, 0, 0xF4, 1, 7, 6, 8, 12, 0, 2, 5, 6, 12, 9, 10, 0, 0, 0, 1, 2, 3, 4, 5, 6, 7, 8]

/-- A write of context 0's command word. -/
def command (code tag : Byte) : WriteBurst := wordsTo (area + 0x400) [code, tag, 0, 0]

/-- A write of the control block's command word. -/
def control (code tag : Byte) : WriteBurst := wordsTo area [code, tag, 0, 0]

/-- The control block fields of example 11.7, with the egress PCM base given. -/
def block (egressLow : Byte) : List Byte :=
  [0, 0, 0x20, 0, 0, egressLow, 0x20, 0, 64, 0, 16, 0, 0, 0, 0x11, 0, 64, 0, 0, 0, 0, 0, 0x10, 0, 64, 0, 0, 0, 0, 0, 0x12, 0,
   128, 0, 0, 0, 0, 4, 1, 100]

/-- The card with the control block in its shadow. -/
def laidOut (egressLow : Byte) : State := { card with shadow := Memory.putAll [] (wordCells 8 (bytesToWords (block egressLow))) }

/-- The status word that waits last. -/
def lastStatus (s : State) : Option QWord :=
  match s.pwq.waiting.getLast? with
  | some (.status w) => some w
  | _ => none

/-! ### Well-formedness (00_scope.md 4.1, 4.4) -/

theorem test_wf_unaligned : (Instr.masterWrite { addr := 2, words := [fullWord 0 0 0 0] }).wf = false := by decide
theorem test_wf_empty : (Instr.masterRead (readFrom 0x100 0)).wf = false := by decide
theorem test_wf_nine_words : (Instr.masterRead (readFrom 0x100 9)).wf = false := by decide
theorem test_wf_crossing : (Instr.egressPcmRead (readFrom 0x11C 2)).wf = false := by decide
theorem test_wf_context : (Instr.encodeEndOfWork 384).wf = false ∧ (Instr.decodeJobCompletion 384).wf = false := by decide
theorem test_wf_burst : (Instr.masterRead (readFrom 0x100 8)).wf = true ∧ (Instr.encodeEndOfWork 383).wf = true := by decide
theorem test_no_bits : decodeTableWord 32 5 = none := by decide

/-! ### Tables of the manual -/

/-- Examples 1.9.1 to 1.9.3. -/
theorem test_companding :
    compress .seg13 915 = 0xF9 ∧ expand .seg13 0xF9 = 912 ∧ compress .seg15 915 = 0xCF ∧ expand .seg15 0xCF = 924 ∧
      compress .seg13 (-100) = 0x53 ∧ compress .seg15 (-100) = 0x72 ∧ expand .seg15 0x72 = -104 ∧
      compress .seg13 (-32768) = 0x2A ∧ compress .seg15 (-32768) = 0 ∧ compress .seg13 256 = 0xC5 := by decide

/-- Example 1.9.4. -/
theorem test_attenuation :
    attenuate .seg13 1 0xF9 = 0xC9 ∧ attenuate .seg13 2 0xF9 = 0xDB ∧ attenuate .seg13 3 0xF9 = 0xD2 ∧
      attenuate .seg15 3 0xCF = 0xF1 ∧ attenuate .seg15 3 0x4F = 0x70 := by decide

/-- Example 2.9.1: step choice, residual codes and reconstructions of the first samples, in mode A4. -/
theorem test_encode_a4 :
    stepIndex 8 800 ([900, 960] ++ List.replicate 38 1000) = 2 ∧
      quantiseAll 8 32 790 [900, 960, 1000, 1000] = [(7, 915), (5, 960), (5, 1000), (4, 1003)] := by decide +kernel

/-- Examples 2.9.3 and 2.9.4: negative residuals round by the floor, and full scale clamps. -/
theorem test_encode_edges :
    stepIndex 4 (-800) (-709 :: List.replicate 39 (-700)) = 2 ∧
      quantiseAll 4 32 (-790) [-709, -700, -700, -700] = [(-1, -724), (-2, -698), (-3, -707), (-3, -715)] ∧
      stepIndex 8 (-16000) (List.replicate 40 32767) = 15 ∧
      quantiseAll 8 2896 (-16000) [32767, 32767, 32767, 32767] = [(7, 6272), (7, 25760), (4, 32767), (1, 31567)] := by decide +kernel

/-- Examples 2.9.3 and 12.3: the packing of residual codes and the first bytes of a frame. -/
theorem test_packing :
    (packBytes ([-1, -2, -3, -3, 0, 0, 0, 0].flatMap (intBits 3))).head? = some 0xFA ∧
      packBytes ([7, 5, 5, 4].flatMap (intBits 4)) = [0x75, 0x54] ∧ frameByte1 .a4 1 false = 0x14 := by decide

/-- Example 2.9.5: the SID level, three generator steps and three noise samples. -/
theorem test_comfort_noise :
    amp 19 = 112 ∧ amp 20 = 128 ∧ genStep 0x4A5D = 0xA52E ∧ genStep 0xA52E = 0xD297 ∧ genStep 0xD297 = 0x694B ∧
      (comfortNoise 20 3 0x4A5D).1 = [-91, -46, 105] := by decide

/-- Example 2.9.7, and the table of R37. -/
theorem test_adapt : adapt 2 5 = .a2 ∧ adapt 3 5 = .a4 ∧ adapt 3 2 = .a3 ∧ adapt 1 2 = .a3 ∧ adapt 1 6 = .a3 := by decide

/-- Example 3.7. -/
theorem test_detector :
    let cfg := { Captured.cleared with tOn := 8, h := 3 }
    let d1 := Detector.step cfg 40 { level := 1310720, floor := 1310720, talk := .quiet }
    let d4 := Detector.step cfg 0 { level := 2457600, floor := 1310760, talk := .talking }
    d1 = { level := 1966080, floor := 1310760, talk := .talking } ∧ d4 = { level := 2448000, floor := 1290280, talk := .talking } := by
  decide

/-- Example 3.8: the states of frames 40 to 48. -/
theorem test_dtx :
    dtxStep 2 false (.silent 1) = (.silent 0, .nodata) ∧ dtxStep 2 false (.silent 0) = (.silent 7, .sid) ∧
      dtxStep 2 true (.silent 7) = (.speech, .speech true) ∧ dtxStep 2 false .speech = (.hangover 2, .speech false) ∧
      dtxStep 2 false (.hangover 0) = (.silent 7, .sid) := by decide

/-- Example 12.5: the record of a REPORT. -/
theorem test_notice_record :
    noticeBytes .report false 12 0x1F40 37 [812, 790, 0, 0, 805, 4, 0, 6, 1] 0 =
      [2, 0, 12, 0, 0x40, 0x1F, 0x25, 0, 0x2C, 3, 0x16, 3, 0, 0, 0, 0, 0x25, 3, 4, 0, 0, 0, 6, 0, 1, 0, 0, 0, 0, 0, 0, 0] := by
  decide

/-- Example 9.6: a SID slot with a template of 4 bytes for context 21 begins 07H, 15H, 00H, 80H and fills words 1 to 3 then 0. -/
theorem test_egress_slot :
    let g := groupOrder (egressSlotBytes 21 0 [1, 2, 3, 4] { seq := 0, type := .sid, request := 0, onset := false, body := [20] })
    g.map (·.1) = [1, 2, 3, 0] ∧ g.getLast? = some (0, fullWord 0x07 0x15 0x00 0x80) := by decide

/-! ### One step of a command -/

/-- Example 11.7 events 1 and 2. -/
theorem test_start :
    leads (exec (.ctlStart (control 1 1)) (laidOut 2)) (fun t => t.part.state = .idle ∧
        lastStatus t = some { addr := area + 4, lanes := fullWord 0x18 1 1 0 }) = true ∧
      leads (exec (.ctlStart (control 1 2)) (laidOut 4)) (fun t => t.part.state = .running ∧ t.part.windows = some layout ∧
        t.part.trigger = 1 ∧ t.part.threshold = 63 ∧ t.part.quietLimit = 4 ∧ t.part.readyMode = .burst) = true := by
  decide +kernel

/-- Example 6.11's clamps, and event 4 of example 11.7. -/
theorem test_open :
    leads (exec (.ctxOpen (command 1 6)) (described live fields)) (fun t =>
      let c := t.ctx 0
      c.state = .active ∧ c.cfg.h = 8 ∧ c.cfg.echoShift = 3 ∧ c.cfg.q = 8 ∧ c.cfg.d = 7 ∧ c.cfg.request = 3 ∧ c.cfg.tmplLen = 8 ∧
        t.claimList 8 = [0] ∧ t.tags = [(500, 0)] ∧ c.p.head? = some 0xD5 ∧
        lastStatus t = some { addr := area + 0x404, lanes := fullWord 1 6 1 1 }) = true := by decide +kernel

/-- Example 11.7 event 5: the clock steps and the byte of timeslot 8 is stored at index 1. -/
theorem test_ingress :
    leads (exec (.ingressPcmWrite (byteTo 0x200048 0x7E)) call) (fun t =>
      t.clocks.inPos = 1 ∧ t.clocks.inFrame = 1 ∧ (t.ctx 0).half0.codes.getD 1 0 = 0x7E ∧
        (t.ctx 0).half0.codes.getD 0 1 = 0 ∧ t.ntw.timer = 1) = true := by decide +kernel

/-- Example 4.7 events 4 and 5: a slip, and a byte replayed at r = 1. -/
theorem test_egress :
    leads (exec (.egressPcmRead (readFrom 0x200408 1))
      { callWith (fun c => { c with cfg := { c.cfg with law := .seg15 }, p := 0xCF :: c.p.tail, nReady := false }) with
        clocks := { call.clocks with outPos := 159, outFrame := 15 } }) (fun t =>
      t.readData.head? = some 0xDD ∧ (t.ctx 0).replay = 1 ∧ (t.ctx 0).counters.slips = 1 ∧ t.clocks.outPos = 0) = true := by
  decide +kernel

/-- R113: a header word with the valid flag set begins a fetch. -/
theorem test_mobile_ingress :
    leads (exec (.mobileIngressWrite (wordsTo 0x110180 [3, 0xF4, 1, 0x80])) call) (fun t =>
      t.ffu.queue = [{ slot := 3, state := .reading }] ∧
        t.ffu.buffer = some { slot := 3, stale := false, phase := .header }) = true := by decide +kernel

/-- R163, R168: consumer words are taken modulo their rings. -/
theorem test_consumers :
    leads (exec (.egressConsumerWrite (wordsTo (area + 0x34) [65, 0, 0, 0])) live) (fun t => t.erw.consumer = 1) = true ∧
      leads (exec (.noticeConsumerWrite (wordsTo (area + 0x3C) [130, 0, 0, 0])) live) (fun t => t.ntw.consumer = 2) = true := by
  decide +kernel

/-- R73: the shadow and memory take the bytes of a control-area write. -/
theorem test_control_write :
    leads (exec (.controlAreaWrite (wordsTo (area + 0x408) [9, 8, 7, 6])) live) (fun t =>
      Memory.get t.shadow 0x40A = 7 ∧ Memory.get t.mem (area + 0x40A) = 7) = true := by decide +kernel

/-- Example 9.6 events 4, 6 and 7: forwarding and supersession. -/
theorem test_forwarding :
    let s := { live with pwq := { entries := [{ addr := 0x100180, lanes := fullWord 7 0x15 0 0x80 }], waiting := [] } }
    leads (exec (.masterRead (readFrom 0x100180 1)) s) (fun t => t.readData = [7, 0x15, 0, 0x80]) = true ∧
      leads (exec (.masterWrite
          { addr := 0x100180, words := [{ b0 := none, b1 := none, b2 := none, b3 := some 0 }] }) s) (fun t =>
        t.pwq.entries = [{ addr := 0x100180, lanes := { b0 := some 7, b1 := some 0x15, b2 := some 0, b3 := none } }] ∧
          t.readByte 0x100183 = 0) = true := by decide +kernel

/-- R171: the straps' memory size bounds START's layout alone; the SDRAM fitted bounds what memory holds. -/
theorem test_fitted :
    leads (exec (.masterWrite (byteTo 0x1000000 5)) { live with part := { live.part with memSize := 0 } })
        (fun t => Memory.get t.mem 0x1000000 = 5) = true ∧
      leads (exec (.masterWrite (byteTo 0x1000000 5)) { live with fitted := 0x1000000 }) (fun t => t.mem = []) = true := by
  decide +kernel

/-- R153: a drain. -/
theorem test_drain :
    leads (exec .drain { live with pwq := { entries := [{ addr := 0x100180, lanes := fullWord 7 0x15 0 0x80 }], waiting := [] } })
      (fun t => t.pwq.entries = [] ∧ Memory.get t.mem 0x100181 = 0x15) = true := by decide +kernel

/-- R99, R102, R103, R106: MODIFY, HANDOVER, CLOSE and REPORT of the call. -/
theorem test_context_commands :
    leads (exec (.ctxModify (command 2 9)) (described call fields)) (fun t => (t.ctx 0).cfg.q = 8 ∧
        lastStatus t = some { addr := area + 0x404, lanes := fullWord 1 9 2 1 }) = true ∧
      leads (exec (.ctxHandover (command 3 9)) { call with tsm := { call.tsm with claims := call.tsm.claims.set 8 [5, 0, 6] } })
        (fun t => t.claimList 8 = [0, 5, 6]) = true ∧
      leads (exec (.ctxClose (command 4 9)) (callRunning .active [.decode decodeOf])) (fun t =>
        (t.ctx 0).state = .closing ∧ t.tags = [] ∧ t.claimList 8 = [] ∧
          lastStatus t = some { addr := area + 0x404, lanes := fullWord 2 9 4 2 }) = true ∧
      leads (exec (.ctxReport (command 5 9)) (callWith fun c => { c with counters := { c.counters with late := 4 } })) (fun t =>
        (t.ctx 0).counters.late = 0 ∧ t.ntw.waiting = 1) = true := by decide +kernel

/-- R92 and example 6.11 write 8; R173. -/
theorem test_bad_commands :
    leads (exec (.ctxBadCommand (command 9 8)) call) (fun t =>
        lastStatus t = some { addr := area + 0x404, lanes := fullWord 0x10 8 9 1 }) = true ∧
      leads (exec (.ctlBadCommand (control 4 8)) card) (fun t =>
        lastStatus t = some { addr := area + 4, lanes := fullWord 0x10 8 4 0 }) = true := by decide +kernel

/-- R176, R177. -/
theorem test_stop_clear :
    leads (exec (.ctlStop (control 2 7)) call) (fun t => t.part.state = .running ∧
        lastStatus t = some { addr := area + 4, lanes := fullWord 0x17 7 2 1 }) = true ∧
      leads (exec (.ctlStop (control 2 7)) live) (fun t => t.part.state = .idle) = true ∧
      leads (exec (.ctlClear (control 3 7)) call) (fun t => t.part.state = .idle ∧ (t.ctx 0).state = .closed ∧ t.tags = []) = true := by
  decide +kernel

/-- R172: the resets. -/
theorem test_resets :
    leads (exec (.powerOnClear 0xFF 3) (described call fields)) (fun t => t.shadow = [] ∧ (t.ctx 0).state = .closed) = true ∧
      leads (exec (.pinReset 0xFF 3) (described call fields)) (fun t => Memory.get t.shadow 0x409 = 3 ∧ t.part.cbBase = 0xFF) = true := by
  decide +kernel

/-- Example 7.7.1 events 1, 2 and 14: the first arrival, the start of a decode job, a catch-up. -/
theorem test_playout :
    let e (seq : Byte) : PlayEntry := { seq := seq, type := .a4, request := 0, onset := false, body := List.replicate 82 0, blocks := 3 }
    let s := (call.offer 0 (e 100))
    let r := (callWith fun c => { c with expected := some 104, playout := [e 104, e 105, e 106, e 107] }).offer 0 (e 110)
    (s.ctx 0).expected = some 98 ∧ s.pool.free = 4093 ∧
      leads (exec .decodeJobStart { s with engine := { s.engine with jobs := [⟨0, .decode⟩] } }) (fun t =>
        (t.ctx 0).expected = some 99 ∧ t.pool.free = 4093 ∧ t.engine.running.length = 1) = true ∧
      (r.ctx 0).expected = some 107 ∧ (r.ctx 0).playout = [e 107, e 110] ∧ (r.ctx 0).counters.late = 3 := by decide +kernel

/-- Example 8.2.1: the first two of its seven jobs. -/
theorem test_job_order :
    let c (p : Priority) (i o : Nat) := { callCtx with cfg := { callCfg with priority := p, inSlot := i, outSlot := o } }
    let s := { live with
      clocks := { live.clocks with inPos := 30, outPos := 90 }
      ctxs := ((live.ctxs.set 7 (c .normal 11 0)).set 200 (c .high 3 0)).set 40 (c .normal 0 70) }
    let late : State := { s with engine := { jobs := [⟨7, .encode⟩, ⟨40, .decode⟩], running := [] } }
    let all : State := { s with engine := { jobs := [⟨7, .encode⟩, ⟨40, .decode⟩, ⟨200, .encode⟩], running := [] } }
    s.slack ⟨7, .encode⟩ = 30 ∧ s.slack ⟨40, .decode⟩ = 30 ∧ late.chosenJob = some ⟨40, .decode⟩ ∧
      all.chosenJob = some ⟨200, .encode⟩ := by decide +kernel

/-! ### Witnesses: states and operands that meet the hypotheses of the statements -/

theorem witness_StepRunsFront : { card with pending := [.drain] }.pending = Instr.drain :: [] := rfl

theorem witness_NothingDue :
    card.pending = [] ∧ card.settled ∧ card.pwq.entries = [] ∧ card.ffu.buffer = none ∧
      ∀ r ∈ card.engine.running, r.job.ctx ≠ 0 := by decide +kernel

theorem witness_IllFormedBurst :
    WriteBurst.wf { addr := 2, words := [fullWord 0 0 0 0] } = false ∧ ReadBurst.wf (readFrom 0x11C 2) = false := by decide

/-- Both areas; an enabled byte, a byte not enabled, and the first address beyond the fitted memory. -/
theorem witness_PlainWrite :
    let s := { live with fitted := 0x100002 }
    (byteTo 0x100000 5).wf = true ∧ s.masterTurn ∧ s.memoryLaw ∧ s.areaOf 0x100000 = .plain ∧
      s.areaOf 0x200400 = .egressPcm ∧ s.areaOf 0x2007FC = .egressPcm ∧
      cellAt (burstCells (byteTo 0x100000 5)) 0x100000 = some 5 ∧ 0x100000 < s.fitted ∧
      cellAt (burstCells (byteTo 0x100000 5)) 0x100001 = none ∧ s.fitted ≤ 0x100002 := by decide +kernel

/-- R58, R171: the first and the last address of the control area and of each window of example 11.7, and the ones beside them. -/
theorem witness_PlainWrite_areas :
    [area - 1, area, area + 32767, 0x200000 - 1, 0x200000, 0x2003FF, 0x200400, 0x2007FF, 0x200800, 0x10FFFF, 0x110000, 0x111FFF,
        0x112000].map live.areaOf =
      [.plain, .control, .control, .plain, .ingressPcm, .ingressPcm, .egressPcm, .egressPcm, .plain, .plain, .mobileIngress,
        .mobileIngress, .plain] ∧
      [area - 1, area, area + 32767, 0x200000].map card.areaOf = [.plain, .control, .control, .plain] := by decide +kernel

theorem witness_PlainRead :
    (readFrom 0x100000 8).wf = true ∧ live.masterTurn ∧ live.areaOf 0x100000 ≠ .egressPcm := by decide +kernel

/-- No context but 0 is tapped in the call. -/
theorem untapped_of_call : ∀ ts, 1 ∉ call.tapSet ts := by
  intro ts
  have h : ∀ l ∈ call.tsm.taps, 1 ∉ l := by decide +kernel
  unfold State.tapSet
  by_cases hl : ts < call.tsm.taps.length
  · rw [List.getD_eq_getElem _ _ hl]; exact h _ (List.getElem_mem hl)
  · rw [List.getD_eq_default _ _ (by omega)]; simp

/-- The first and the last byte of the ring; context 1 is CLOSED and tapped nowhere (`untapped_of_call`). -/
theorem witness_IngressWrite :
    (byteTo 0x200000 5).wf = true ∧ call.masterTurn ∧ call.memoryLaw ∧ call.rangeLaw ∧ call.areaOf 0x200000 = .ingressPcm ∧
      call.areaOf 0x2003FC = .ingressPcm ∧ (call.ctx 1).state ≠ .active ∧
      cellAt (burstCells (byteTo 0x200000 5)) 0x200000 = some 5 ∧ cellAt (burstCells (byteTo 0x200000 5)) 0x200001 = none := by
  decide +kernel

/-- The call one step before both boundaries of context 0, its next encode job pending and every lane busy. -/
def atBoundary (missed ready slipped : Bool) : State :=
  { callWith (fun c => { c with nReady := ready, edges := { c.edges with uplinkMissed := missed, slip := slipped } }) with
    clocks := { call.clocks with inPos := 159, outPos := 159 }
    engine := { jobs := [⟨0, .encode⟩], running := [1, 2, 3, 4].map fun k => .decode { decodeOf with ctx := k } } }

/-- A crossed boundary, with and without a pending encode job; context 1 is not crossed. -/
theorem witness_IngressWrite_crossing :
    let s := atBoundary true true true
    let idle := { s with engine := { s.engine with jobs := [] } }
    s.masterTurn ∧ s.memoryLaw ∧ s.rangeLaw ∧ idle.masterTurn ∧ s.areaOf 0x200040 = .ingressPcm ∧
      (byteTo 0x200040 5).wf = true ∧ ((0x200040 - s.win.ingressBase) / s.win.slots + s.win.frames - s.clocks.inFrame) % s.win.frames = 1 ∧
      (s.ctx 0).state = .active ∧ (s.ctx 0).cfg.uplink = true ∧ (s.clocks.inPos + 1) % 160 = 20 * ((s.ctx 0).cfg.inSlot % 8) ∧
      Job.mk 0 .encode ∈ s.engine.jobs ∧ (s.ctx 0).edges.uplinkMissed = true ∧ Job.mk 0 .encode ∉ idle.engine.jobs ∧
      (s.ctx 1).state ≠ .active := by decide +kernel

theorem witness_TapStoresByte :
    let b := byteTo 0x200008 5
    b.wf = true ∧ call.masterTurn ∧ call.rangeLaw ∧ call.areaOf b.addr.toNat = .ingressPcm ∧ burstCells b = [(0x200008, 5)] ∧
      (b.addr.toNat - call.win.ingressBase) / call.win.slots = call.clocks.inFrame ∧
      (call.tapSet 8).Nodup ∧ (∀ k ∈ call.tapSet 8, k < call.ctxs.length) ∧ 0 ∈ call.tapSet 8 ∧ 1 ∉ call.tapSet 8 := by
  decide +kernel

/-- Every tap set of the call holds contexts of the part, none twice. -/
theorem taps_of_call : ∀ ts, (call.tapSet ts).Nodup ∧ ∀ j ∈ call.tapSet ts, j < call.ctxs.length := by
  intro ts
  have h : ∀ l ∈ call.tsm.taps, l.Nodup ∧ ∀ j ∈ l, j < call.ctxs.length := by decide +kernel
  unfold State.tapSet
  by_cases hl : ts < call.tsm.taps.length
  · rw [List.getD_eq_getElem _ _ hl]; exact h _ (List.getElem_mem hl)
  · rw [List.getD_eq_default _ _ (by omega)]; simp

/-- A burst of 12 enabled bytes in the current ring frame and one in the next, which context 0 crosses and context 1 does not;
the tap sets are `taps_of_call`'s. -/
theorem witness_TapStoresByte_burst :
    let b := wordsTo 0x200004 (List.replicate 12 5)
    let n := wordsTo 0x200044 (List.replicate 12 5)
    let s := atBoundary true true true
    b.wf = true ∧ n.wf = true ∧ (burstCells b).length = 12 ∧ call.masterTurn ∧ call.rangeLaw ∧ s.masterTurn ∧ s.rangeLaw ∧
      s.tsm = call.tsm ∧ s.ctxs.length = call.ctxs.length ∧ call.areaOf b.addr.toNat = .ingressPcm ∧
      s.areaOf n.addr.toNat = .ingressPcm ∧
      ((b.addr.toNat - call.win.ingressBase) / call.win.slots + call.win.frames - call.clocks.inFrame) % call.win.frames = 0 ∧
      ((n.addr.toNat - s.win.ingressBase) / s.win.slots + s.win.frames - s.clocks.inFrame) % s.win.frames = 1 ∧
      0 ∈ s.tapSet ((0x200048 - s.win.ingressBase) % s.win.slots) ∧ (s.ctx 0).state = .active ∧ (s.ctx 0).cfg.uplink = true ∧
      (s.clocks.inPos + 1) % 160 = 20 * ((s.ctx 0).cfg.inSlot % 8) ∧ (s.ctx 1).state ≠ .active := by decide +kernel

/-- Without a pending encode job, and with one under a clear edge flag. -/
theorem witness_FlipHalves :
    let s := { call with engine := { jobs := [⟨0, .encode⟩], running := [] } }
    0 < call.ctxs.length ∧ Job.mk 0 .encode ∉ call.engine.jobs ∧ Job.mk 0 .encode ∈ s.engine.jobs ∧
      (s.ctx 0).edges.uplinkMissed = false := by decide +kernel

/-- A read of the current ring frame and one of the last. -/
theorem witness_EgressRead :
    (readFrom 0x200400 8).wf = true ∧ call.masterTurn ∧ call.rangeLaw ∧ call.areaOf 0x200400 = .egressPcm ∧
      (0x200400 - call.win.egressBase) / call.win.slots = call.clocks.outFrame ∧
      (readFrom 0x2007FC 1).wf = true ∧ call.areaOf 0x2007FC = .egressPcm := by decide +kernel

/-- A crossed boundary, with N ready and without; context 1 is not crossed. -/
theorem witness_EgressRead_crossing :
    let swap := atBoundary false true false
    let slip := atBoundary false false true
    swap.masterTurn ∧ swap.rangeLaw ∧ slip.masterTurn ∧ slip.rangeLaw ∧ swap.areaOf 0x200440 = .egressPcm ∧
      (readFrom 0x200440 1).wf = true ∧
      ((0x200440 - swap.win.egressBase) / swap.win.slots + swap.win.frames - swap.clocks.outFrame) % swap.win.frames = 1 ∧
      (swap.ctx 0).state = .active ∧ (swap.ctx 0).cfg.downlink = true ∧
      (swap.clocks.outPos + 1) % 160 = 20 * ((swap.ctx 0).cfg.outSlot % 8) ∧
      (swap.ctx 0).nReady = true ∧ (slip.ctx 0).nReady = false ∧ (slip.ctx 0).edges.slip = true ∧
      (swap.ctx 1).state ≠ .active := by decide +kernel

theorem witness_SwapOrSlip :
    let slip := callWith fun c => { c with nReady := false }
    0 < call.ctxs.length ∧ (call.ctx 0).nReady = true ∧ (slip.ctx 0).nReady = false ∧ (slip.ctx 0).edges.slip = false ∧
      ((callWith fun c => { c with nReady := false, edges := { c.edges with slip := true } }).ctx 0).edges.slip = true := by
  decide +kernel

/-- The call with a fetch of slot 0 and WAITING entries for the slots after it, `n` in all. -/
def fetching (n : Nat) : State :=
  { call with ffu :=
    { queue := { slot := 0, state := .reading } :: (List.range (n - 1)).map fun i => { slot := i + 1, state := .waiting }
      buffer := some { slot := 0, stale := false, phase := .header }, overrun := false } }

theorem fetchLaw_of_call : call.fetchLaw := ⟨by decide +kernel, by decide +kernel, rfl, by decide +kernel⟩
theorem fetchLaw_of_fetching : (fetching 2).fetchLaw ∧ (fetching 16).fetchLaw :=
  ⟨⟨by decide +kernel, by decide +kernel, ⟨rfl, by decide +kernel⟩, by decide +kernel⟩,
    ⟨by decide +kernel, by decide +kernel, ⟨rfl, by decide +kernel⟩, by decide +kernel⟩⟩

/-- A header word of slots 0, 1 and 63 and a write without one; an idle buffer, two entries, 16 entries (`fetchLaw_of_call`,
`fetchLaw_of_fetching`). -/
theorem witness_MobileIngressEvent :
    (wordsTo 0x110000 [3, 0, 0, 0x80]).wf = true ∧ call.masterTurn ∧ (fetching 2).masterTurn ∧ (fetching 16).masterTurn ∧
      (fetching 2).memoryLaw ∧ call.areaOf 0x110000 = .mobileIngress ∧ call.areaOf (0x110000 + 128 * 63) = .mobileIngress ∧
      cellAt (burstCells (wordsTo 0x110000 [3, 0, 0, 0x80])) 0x110003 = some 0x80 ∧
      cellAt (burstCells (wordsTo 0x110000 [3, 0, 0, 0])) 0x110003 = some 0 ∧
      cellAt (burstCells (wordsTo 0x110004 [3])) 0x110003 = none ∧
      FetchEntry.mk 0 .reading ∈ (fetching 2).ffu.queue ∧ FetchEntry.mk 1 .waiting ∈ (fetching 2).ffu.queue ∧
      FetchEntry.mk 63 .waiting ∉ (fetching 16).ffu.queue ∧ FetchEntry.mk 63 .reading ∉ (fetching 16).ffu.queue ∧
      (fetching 16).ffu.queue.length = 16 ∧ call.ffu.buffer = none := by decide +kernel

/-- A descriptor field, a command word with code 0, and in IDLE the consumer words. -/
theorem witness_ShadowWrite :
    let field := byteTo (area + 0x408) 1
    let none0 := command 0 5
    live.masterTurn ∧ live.memoryLaw ∧ live.areaOf (area + 0x408) = .control ∧ field.wf = true ∧ none0.wf = true ∧
      includedCommand (live.controlCells (burstCells field)) = none ∧
      (∀ c ∈ live.controlCells (burstCells field), ¬ (0x34 ≤ c.1 ∧ c.1 < 0x38) ∧ ¬ (0x3C ≤ c.1 ∧ c.1 < 0x40)) ∧
      includedCommand (live.controlCells (burstCells none0)) = some (.context 0) ∧
      Memory.get (live.written none0).shadow 0x400 = 0 ∧
      card.masterTurn ∧ card.memoryLaw ∧ card.part.state = .idle ∧ card.areaOf (area + 0x34) = .control ∧
      includedCommand (card.controlCells (burstCells (wordsTo (area + 0x34) [1, 0, 0, 0]))) = none := by decide +kernel

/-- The first byte of each consumer word, and both words in one burst. -/
theorem witness_ConsumerWrites :
    let e := byteTo (area + 0x34) 1
    let n := byteTo (area + 0x3C) 1
    let both := wordsTo (area + 0x34) [1, 0, 0, 0, 0, 0, 0, 0, 1, 0, 0, 0]
    e.wf = true ∧ n.wf = true ∧ both.wf = true ∧ live.masterTurn ∧ live.areaOf (area + 0x34) = .control ∧
      live.areaOf (area + 0x3C) = .control ∧ live.part.state = .running ∧
      includedCommand (live.controlCells (burstCells e)) = none ∧ includedCommand (live.controlCells (burstCells n)) = none ∧
      includedCommand (live.controlCells (burstCells both)) = none ∧
      live.controlCells (burstCells e) = [(0x34, 1)] ∧ live.controlCells (burstCells n) = [(0x3C, 1)] ∧
      covers (live.controlCells (burstCells both)) 0x34 = true ∧ covers (live.controlCells (burstCells both)) 0x3C = true := by
  decide +kernel

theorem witness_OpenAccepted :
    let s := described live fields
    let g := s.written (command 1 6)
    let byte off := (Memory.get g.shadow (0x400 + off)).toNat
    let word off := byte off + 256 * byte (off + 1)
    CommandGrant s (command 1 6) (.context 0) 1 6 ∧ s.ctxs.length = 384 ∧ s.part.state = .running ∧
      (s.ctx 0).state = .closed ∧ byte 8 ≤ 1 ∧ byte 9 % 2 = 1 ∧ byte 9 / 2 % 2 = 1 ∧
      word 0x0C < s.win.slots ∧ BitVec.ofNat 3 (byte 0x12) ≠ 0 ∧ (s.tapSet (word 0x0C)).length < 3 ∧
      word 0x0E < s.win.slots ∧ word 0x10 ≠ 0 ∧ (∀ p ∈ s.tags, p.1 ≠ word 0x10) ∧ (s.claimList (word 0x0E)).length < 3 := by
  decide +kernel

/-- The refusals of OPEN: IDLE, CLOSING, ACTIVE, law 2, a tag in use, a full claim list. -/
theorem witness_ContextRefusals_open :
    let b := command 1 6
    let closing := callRunning .closing [.decode decodeOf]
    let law2 := described live (2 :: fields.tail)
    let used := { described live fields with tags := [(500, 3)] }
    let full := { described live fields with tsm := { live.tsm with claims := live.tsm.claims.set 8 [1, 2, 3] } }
    CommandGrant card b (.context 0) 1 6 ∧ card.part.state = .idle ∧
      CommandGrant closing b (.context 0) 1 6 ∧ (closing.ctx 0).state = .closing ∧
      CommandGrant call b (.context 0) 1 6 ∧ (call.ctx 0).state = .active ∧
      CommandGrant law2 b (.context 0) 1 6 ∧ 1 < (Memory.get (law2.written b).shadow 0x408).toNat ∧
      CommandGrant used b (.context 0) 1 6 ∧ (used.ctx 0).state = .closed ∧ (∃ p ∈ used.tags, p.1 = 500) ∧
      CommandGrant full b (.context 0) 1 6 ∧ 3 ≤ (full.claimList 8).length := by decide +kernel

/-- The refusals of MODIFY and HANDOVER. -/
theorem witness_ContextRefusals_modify_handover :
    let closing := callRunning .closing [.decode decodeOf]
    let noDown := callWith fun c => { c with cfg := { c.cfg with downlink := false } }
    CommandGrant live (command 2 6) (.context 0) 2 6 ∧ (live.ctx 0).state = .closed ∧
      CommandGrant closing (command 2 6) (.context 0) 2 6 ∧
      CommandGrant call (command 2 6) (.context 0) 2 6 ∧ (call.ctx 0).cfg.uplink = true ∧
      (Memory.get (call.written (command 2 6)).shadow 0x412).toNat % 8 = 0 ∧
      CommandGrant live (command 3 6) (.context 0) 3 6 ∧ CommandGrant closing (command 3 6) (.context 0) 3 6 ∧
      CommandGrant noDown (command 3 6) (.context 0) 3 6 ∧ (noDown.ctx 0).cfg.downlink = false := by decide +kernel

/-- The refusals of CLOSE and REPORT, and the codes 6 and 255. -/
theorem witness_ContextRefusals_others :
    let closing := callRunning .closing [.decode decodeOf]
    CommandGrant live (command 4 6) (.context 0) 4 6 ∧ CommandGrant closing (command 4 6) (.context 0) 4 6 ∧
      CommandGrant live (command 5 6) (.context 0) 5 6 ∧ CommandGrant call (command 6 6) (.context 0) 6 6 ∧
      CommandGrant call (command 255 6) (.context 0) 255 6 := by decide +kernel

/-- The call with one SID entry at distance 3 under Q = 4, the pool one block short of 1024 and LOW. -/
def held : State :=
  { callWith (fun c => { c with
      expected := some 7, playout := [{ seq := 10, type := .sid, request := 0, onset := false, body := [20], blocks := 1 }] }) with
    pool := { free := 1023, low := true } }

/-- With an empty queue, and with an entry that Q = 2 (descriptor offset 1AH) releases. -/
theorem witness_ModifyAccepted :
    let s := described call fields
    let q2 := described held (fields.set 0x12 2)
    CommandGrant s (command 2 6) (.context 0) 2 6 ∧ 0 < s.ctxs.length ∧ (s.ctx 0).state = .active ∧
      BitVec.ofNat 3 (Memory.get (s.written (command 2 6)).shadow 0x412).toNat ≠ 0 ∧
      CommandGrant q2 (command 2 6) (.context 0) 2 6 ∧ (q2.ctx 0).state = .active ∧ (q2.ctx 0).expected = some 7 ∧
      Memory.get (q2.written (command 2 6)).shadow 0x41A = 2 ∧ (q2.ctx 0).cfg.q = 4 ∧ distance 7 10 = 3 := by decide +kernel

/-- R124 at that MODIFY: the returned block brings the count to 1024, which clears LOW. -/
theorem test_modify_recovers : leads (execCtxModify (command 2 6) (described held (fields.set 0x12 2)))
    (fun t => t.pool == { free := 1024, low := false } && (t.ctx 0).counters.late == 1) = true := by decide +kernel

theorem witness_HandoverAccepted :
    CommandGrant call (command 3 6) (.context 0) 3 6 ∧ (call.ctx 0).state = .active ∧ (call.ctx 0).cfg.downlink = true ∧
      0 ∈ call.claimList (call.ctx 0).cfg.outSlot ∧ (call.claimList (call.ctx 0).cfg.outSlot).Nodup := by decide +kernel

/-- With no running job and with one; with an empty queue and with one entry. -/
theorem witness_CloseAccepted :
    let busy := callRunning .active [.decode decodeOf]
    CommandGrant call (command 4 6) (.context 0) 4 6 ∧ 0 < call.ctxs.length ∧ (call.ctx 0).state = .active ∧
      (call.ctx 0).runningJobs = 0 ∧ (call.ctx 0).playout = [] ∧
      CommandGrant busy (command 4 6) (.context 0) 4 6 ∧ (busy.ctx 0).state = .active ∧ (busy.ctx 0).runningJobs ≠ 0 ∧
      CommandGrant held (command 4 6) (.context 0) 4 6 ∧ (held.ctx 0).state = .active ∧ (held.ctx 0).playout.length = 1 := by
  decide +kernel

theorem witness_ReportAccepted :
    let closing := callRunning .closing [.decode decodeOf]
    CommandGrant call (command 5 6) (.context 0) 5 6 ∧ (call.ctx 0).state ≠ .closed ∧
      CommandGrant closing (command 5 6) (.context 0) 5 6 ∧ (closing.ctx 0).state ≠ .closed := by decide +kernel

/-- Contexts 0 and 383. -/
theorem witness_OtherContextsKept :
    CommandGrant call (command 4 6) (.context 0) 4 6 ∧
      CommandGrant call (wordsTo (area + 0x400 + 0x40 * 383) [5, 6, 0, 0]) (.context 383) 5 6 := by decide +kernel

/-- R74: the command words 0 and 383, the byte beside one, and the first offset after the descriptors. -/
theorem witness_OtherContextsKept_words :
    let at_ (off : Nat) := includedCommand [(off, 1)]
    at_ 0 = some .control ∧ at_ 0x400 = some (.context 0) ∧ at_ (0x400 + 0x40 * 383) = some (.context 383) ∧ at_ 0x401 = none ∧
      at_ 0x6400 = none := by decide

theorem witness_StartAccepted :
    let s := laidOut 4
    let byteAt off := (Memory.get (s.written (control 1 2)).shadow off).toNat
    let word off := byteAt off + 256 * byteAt (off + 1)
    let base off := word off + 65536 * byteAt (off + 2) + 16777216 * (byteAt (off + 3) % 16)
    let w : Windows :=
      { ingressBase := base 0x08, egressBase := base 0x0C, slots := word 0x10, frames := byteAt 0x12, mobInBase := base 0x14
        ni := word 0x18, mobOutBase := base 0x1C, ne := word 0x20, noticeBase := base 0x24, nn := word 0x28 }
    CommandGrant s (control 1 2) .control 1 2 ∧ s.part.state = .idle ∧ w = layout ∧ w.rangesOk = true ∧
      (w.ingressBase % 32 = 0 ∧ w.egressBase % 32 = 0 ∧ w.noticeBase % 32 = 0 ∧ w.mobInBase % 128 = 0 ∧ w.mobOutBase % 128 = 0) ∧
      s.controlBase = area ∧ s.memBytes = 0x8000000 ∧
      ([(area, 32768), (0x200000, 1024), (0x200400, 1024), (0x110000, 8192), (0x100000, 8192), (0x120000, 4096)] :
        List (Nat × Nat)).Pairwise (fun x y => x.1 + x.2 ≤ y.1 ∨ y.1 + y.2 ≤ x.1) := by decide +kernel

/-- START in RUNNING and with overlapping rings, STOP in IDLE and with an open context, the codes 4 and 255. -/
theorem witness_ControlRefusals :
    CommandGrant live (control 1 2) .control 1 2 ∧ live.part.state = .running ∧
      CommandGrant (laidOut 2) (control 1 2) .control 1 2 ∧ (laidOut 2).part.state = .idle ∧
      CommandGrant card (control 2 2) .control 2 2 ∧ card.part.state = .idle ∧
      CommandGrant call (control 2 2) .control 2 2 ∧ (∃ c ∈ call.ctxs, c.state ≠ .closed) ∧
      CommandGrant card (control 4 2) .control 4 2 ∧ CommandGrant card (control 255 2) .control 255 2 := by decide +kernel

theorem witness_StopAndClear :
    CommandGrant live (control 2 2) .control 2 2 ∧ live.part.state = .running ∧ (∀ c ∈ live.ctxs, c.state = .closed) ∧
      CommandGrant call (control 3 2) .control 3 2 := by decide +kernel

theorem witness_DrainOldestWord :
    let w : QWord := { addr := 0x100180, lanes := fullWord 7 0x15 0 0x80 }
    let s := { live with pwq := { entries := [w], waiting := [] } }
    s.queueTurn ∧ s.memoryLaw ∧ s.pwq.entries = w :: [] := by decide +kernel

/-! The six cases of R149's choice, at the last value of each count before its bound and at the bound. -/

/-- The call with `words` queue entries, `groups` waiting status groups, a fetch begun or none, and the two grant counters. -/
def contended (words drains fetches groups : Nat) (fetch : Bool) : State :=
  { if fetch then fetching 1 else call with
    pwq := { entries := List.replicate words word0, waiting := List.replicate groups (.status word0) }
    mpa := { drainCount := drains, fetchCount := fetches } }

/-- What the three counts of R149 and the buffer are in such a state. -/
def contention (s : State) : Bool × Bool × Bool :=
  (decide (32 ≤ s.pwq.entries.length ∧ 4 ≤ s.mpa.drainCount), decide (s.ffu.buffer ≠ none ∧ 8 ≤ s.mpa.fetchCount),
    decide (s.pwq.waiting.countP Group.isStatusOrIndex < 15))

theorem witness_ArbiterOrder_long :
    contention (contended 32 4 8 0 true) = (true, true, true) ∧ contention (contended 64 4 0 0 false) = (true, false, true) := by
  decide +kernel

theorem witness_ArbiterOrder_starved :
    contention (contended 31 4 8 0 true) = (false, true, true) ∧ contention (contended 32 3 8 15 true) = (false, true, false) := by
  decide +kernel

theorem witness_ArbiterOrder_master :
    contention (contended 32 3 7 14 true) = (false, false, true) ∧ contention (contended 31 4 8 0 false) = (false, false, true) := by
  decide +kernel

/-- Held back by 15 groups; without a master access the same states serve with any number of groups. -/
theorem witness_ArbiterOrder_drain :
    contention (contended 31 4 7 15 true) = (false, false, false) ∧ (contended 31 4 7 15 true).pwq.entries ≠ [] ∧
      contention (contended 1 0 0 14 true) = (false, false, true) ∧ (contended 1 0 0 14 true).pwq.entries ≠ [] := by
  decide +kernel

theorem witness_ArbiterOrder_fetch :
    contention (contended 0 4 7 15 true) = (false, false, false) ∧ (contended 0 4 7 15 true).pwq.entries = [] ∧
      (contended 0 4 7 15 true).ffu.buffer ≠ none := by decide +kernel

theorem witness_ArbiterOrder_none :
    contention (contended 0 4 8 15 false) = (false, false, false) ∧ (contended 0 4 8 15 false).pwq.entries = [] ∧
      (contended 0 4 8 15 false).ffu.buffer = none := by decide +kernel

/-- The call with a fetch of slot 0, STALE or not, in a phase, and the slot's header word in memory. -/
def fetchOf (stale : Bool) (phase : FetchPhase) (length valid : Byte) : State :=
  { call with
    mem := Memory.putAll [] (wordCells 0x110000 [fullWord length 0xF4 1 valid])
    ffu :=
      { queue := if stale then [⟨0, .waiting⟩] else [⟨0, .reading⟩]
        buffer := some { slot := 0, stale := stale, phase := phase }, overrun := false } }

/-- The hypotheses of a header read, and the header it reads. -/
def headerRead (s : State) (stale : Bool) (length : Nat) (valid : Bool) : Prop :=
  (s.fetchTurn ∧ s.ffu.buffer = some { slot := 0, stale := stale, phase := .header }) ∧
    (s.readByte 0x110000).toNat = length ∧ (s.readByte 0x110003).getLsbD 7 = valid

/-- A slot whose valid flag is 0, and the lengths on both sides of 3 and 84; a STALE fetch of each form. -/
theorem witness_HeaderReadGrant :
    headerRead (fetchOf false .header 3 0) false 3 false ∧ headerRead (fetchOf false .header 2 0x80) false 2 true ∧
      headerRead (fetchOf false .header 3 0x80) false 3 true ∧ headerRead (fetchOf false .header 84 0x80) false 84 true ∧
      headerRead (fetchOf false .header 85 0x80) false 85 true := by unfold headerRead; decide +kernel

theorem witness_HeaderReadGrant_stale :
    headerRead (fetchOf true .header 3 0) true 3 false ∧ headerRead (fetchOf true .header 2 0x80) true 2 true ∧
      headerRead (fetchOf true .header 84 0x80) true 84 true ∧ headerRead (fetchOf true .header 85 0x80) true 85 true := by
  unfold headerRead; decide +kernel

/-- The hypotheses of a body burst from word `next`, and whether it is the frame's last: R116's bound and W. -/
def bodyRead (s : State) (stale : Bool) (length next : Nat) (last : Bool) : Prop :=
  (s.fetchTurn ∧ s.ffu.buffer = some { slot := 0, stale := stale, phase := .body length 500 next [] }) ∧
    decide ((4 + length + 3) / 4 ≤ 8 * (next / 8) + 8) = last

/-- A first burst and a last one of the longest frame, the only burst of the shortest, and a STALE fetch of each. -/
theorem witness_BodyReadGrant :
    bodyRead (fetchOf false (.body 84 500 1 []) 84 0x80) false 84 1 false ∧
      bodyRead (fetchOf false (.body 84 500 16 []) 84 0x80) false 84 16 true ∧
      bodyRead (fetchOf false (.body 3 500 1 []) 3 0x80) false 3 1 true ∧
      bodyRead (fetchOf true (.body 84 500 8 []) 84 0x80) true 84 8 false ∧
      bodyRead (fetchOf true (.body 84 500 16 []) 84 0x80) true 84 16 true := by unfold bodyRead; decide +kernel

/-- An unknown tag and a known one; a malformed frame is any of 2 bytes, a SID frame of 3 bytes needs 1 block. -/
theorem witness_FrameDisposal :
    (∀ p ∈ call.tags, p.1 ≠ 1) ∧ call.lookupTag 500 = some 0 ∧ 0 < call.ctxs.length ∧ 1 ≤ call.pool.free ∧
      { call with pool := { free := 0, low := true } }.lookupTag 500 = some 0 := by decide +kernel

/-- Expected UNSET and set, an empty queue; distances 0, 3, 4, 127 and 128 under Q = 4. -/
theorem witness_PlayoutArrival :
    playoutOrdered 4 none [] ∧ playoutOrdered 4 (some 10) [] ∧ 0 < call.ctxs.length ∧
      (call.ctx 0).cfg.q = 4 ∧ (call.ctx 0).cfg.d < 4 ∧ (call.ctx 0).expected = none ∧ (call.ctx 0).playout = [] ∧
      distance 10 10 = 0 ∧ distance 10 13 = 3 ∧ distance 10 14 = 4 ∧ distance 10 137 = 127 ∧ distance 10 138 = 128 := by
  refine ⟨rfl, ⟨List.Pairwise.nil, fun e h => by cases h⟩, ?_⟩
  decide +kernel

/-- A catch-up to distance 7 releases the entry that the call holds at distance 3. -/
theorem witness_PlayoutArrival_catchUp :
    let c := held.ctx 0
    playoutOrdered c.cfg.q c.expected c.playout ∧ c.expected = some 7 ∧ distance 7 14 = 7 ∧ c.playout ≠ [] ∧
      (c.playout.filter fun o => decide (distance 7 o.seq < 7 + 1 - c.cfg.q)) = c.playout :=
  ⟨⟨by decide +kernel, by decide +kernel⟩, by decide +kernel⟩

/-- R157, R167: a notice that waits at START stands ahead of the index reset group, and producer counts from 0. -/
theorem test_start_behind_notice :
    let s := { laidOut 4 with
      pwq := { entries := [], waiting := [.notice (List.replicate 9 word0)] }, ntw := { card.ntw with producer := 5, waiting := 1 } }
    let t := s.grantWrite (control 1 2)
    t.pwq.waiting.map Group.size = [9, 4, 1] ∧ t.ntw.producer = 0 ∧ t.ntw.waiting = 1 := by decide +kernel

/-- R124's five cases at an insertion of three blocks and at a return of one: 513 and 515 with the flag clear, 1023 and 1022 with
it set. -/
theorem witness_poolBecomes :
    (513 - 3 : Nat) < 512 ∧ (512 : Nat) ≤ 515 - 3 ∧ (1024 : Nat) ≤ 1023 + 1 ∧ (1022 + 1 : Nat) < 1024 ∧
      ({ call with pool := { free := 513, low := false } }.offer 0
        { seq := 7, type := .a4, request := 0, onset := false, body := [], blocks := 3 }).pool = { free := 510, low := true } ∧
      ({ call with pool := { free := 1023, low := true } }.returnBlocks 1).pool = { free := 1024, low := false } := by
  decide +kernel

/-- A chosen job, and none for a full engine. -/
theorem witness_JobOrder :
    let s := { call with engine := { jobs := [⟨0, .decode⟩], running := [] } }
    s.chosenJob = some ⟨0, .decode⟩ ∧ call.chosenJob = none := by decide +kernel

/-- The start of an encode job; requests allowed, above a lower mode, and below every mode. -/
theorem witness_EncodeJobStart :
    let s := { call with engine := { jobs := [⟨0, .encode⟩], running := [] } }
    0 < s.ctxs.length ∧ s.dueStep = some (.start { ctx := 0, kind := .encode }) ∧
      (5#3).getLsbD (1 - 1) = true ∧ (5#3).getLsbD (2 - 1) = false ∧ (2#3).getLsbD (1 - 1) = false := by decide +kernel

/-- With an entry at distance 0 and without. -/
theorem witness_DecodeJobStart :
    let e : PlayEntry := { seq := 7, type := .sid, request := 0, onset := false, body := [20], blocks := 1 }
    let some7 := { callWith (fun c => { c with expected := some 7, playout := [e] }) with
      engine := { jobs := [⟨0, .decode⟩], running := [] } }
    let none7 := { call with engine := { jobs := [⟨0, .decode⟩], running := [] } }
    some7.dueStep = some (.start { ctx := 0, kind := .decode }) ∧ 0 < some7.ctxs.length ∧ entryAtZero (some7.ctx 0) 7 = some e ∧
      none7.dueStep = some (.start { ctx := 0, kind := .decode }) ∧ (none7.ctx 0).expected = none := by decide +kernel

/-- NODATA, a SID frame with room, a SID frame for a full ring, and a CLOSING context with one and two running jobs. -/
theorem witness_EncodeEndOfWork :
    let quiet := encodeOf (.silent 3) false
    let sid := encodeOf (.silent 0) false
    let one := callRunning .closing [.encode quiet]
    let two := callRunning .closing [.encode quiet, .decode decodeOf]
    let room := callRunning .active [.encode sid]
    let full := { callRunning .active [.encode sid] with erw := { call.erw with producer := 63 } }
    (callRunning .active [.encode quiet]).settled ∧ 0 < call.ctxs.length ∧
      (callRunning .active [.encode quiet]).workingEncode 0 = some quiet ∧ (encodeWork quiet).frame = none ∧
      room.settled ∧ room.workingEncode 0 = some sid ∧ (encodeWork sid).frame.isSome = true ∧
      (room.erw.producer + room.erw.waiting + 1) % room.win.ne ≠ room.erw.consumer ∧
      full.settled ∧ full.workingEncode 0 = some sid ∧ (full.erw.producer + full.erw.waiting + 1) % full.win.ne = full.erw.consumer ∧
      one.settled ∧ one.workingEncode 0 = some quiet ∧ (one.ctx 0).state = .closing ∧ (one.ctx 0).runningJobs = 1 ∧
      two.settled ∧ two.workingEncode 0 = some quiet ∧ (two.ctx 0).runningJobs = 2 := by decide +kernel

/-- A job for each kind of frame, of 160 codes: speech with onset and without, SID and NODATA. -/
theorem witness_encode_work :
    let dtx (d : DtxState) (talks : Bool) := ((encodeOf d talks).enc.dtx, frameActive (encodeOf d talks))
    dtx (.silent 3) true = (.silent 3, true) ∧ dtx .speech true = (.speech, true) ∧ dtx .speech false = (.speech, false) ∧
      dtx (.hangover 0) false = (.hangover 0, false) ∧ dtx (.hangover 1) false = (.hangover 1, false) ∧
      dtx (.silent 0) false = (.silent 0, false) ∧ dtx (.silent 1) false = (.silent 1, false) ∧
      (encodeOf .speech true).codes.length = 160 := by decide +kernel

theorem witness_DecodeJobCompletion :
    let active := callRunning .active [.decode decodeOf]
    let one := callRunning .closing [.decode decodeOf]
    let two := callRunning .closing [.decode decodeOf, .encode (encodeOf .speech true)]
    active.settled ∧ 0 < active.ctxs.length ∧ active.runningDecode 0 = some decodeOf ∧ (active.ctx 0).state = .active ∧
      one.settled ∧ one.runningDecode 0 = some decodeOf ∧ (one.ctx 0).state = .closing ∧ (one.ctx 0).runningJobs = 1 ∧
      two.settled ∧ two.runningDecode 0 = some decodeOf ∧ (two.ctx 0).runningJobs = 2 := by decide +kernel

/-- A decode job for each case of its work. -/
theorem witness_decode_work :
    let e (type : FrameType) : PlayEntry := { seq := 7, type := type, request := 2, onset := false, body := [48], blocks := 1 }
    let sid : DecodeJob := { decodeOf with taken := some (e .sid) }
    let speech : DecodeJob := { decodeOf with taken := some (e .a2) }
    sid.taken = some (e .sid) ∧ (e .sid).type = .sid ∧ speech.taken = some (e .a2) ∧ (e .a2).type ≠ .sid ∧
      decodeOf.taken = none ∧ decodeOf.dec.state = .initial ∧ decodeOf.p.length = 160 ∧
      ({ decodeOf with dec := { decodeOf.dec with state := .normal } } : DecodeJob).dec.state = .normal ∧
      ({ decodeOf with dec := { decodeOf.dec with state := .comfort } } : DecodeJob).dec.state = .comfort := by decide +kernel

/-- The call with groups waiting. -/
def waitingFor (gs : List Group) : State := { call with pwq := { entries := [], waiting := gs } }

/-- One head of each kind. -/
theorem witness_GroupAdmission :
    (waitingFor [.status word0]).dueStep = some .admission ∧ (waitingFor [.indexReset [word0]]).dueStep = some .admission ∧
      (waitingFor [.notice [word0]]).dueStep = some .admission ∧
      (waitingFor [.egress 0 0 [(1, fullWord 0 0 0 0)]]).dueStep = some .admission ∧ (call.ctx 0).state = .active ∧
      0 < call.ctxs.length := by decide +kernel

/-- A CLOSING context with one and with two running jobs. -/
theorem witness_GroupDiscard :
    let j := { encodeOf .speech true with waiting := true }
    let g : List Group := [.egress 0 0 [(1, fullWord 0 0 0 0)]]
    let one := { callRunning .closing [.encode j] with pwq := { entries := [], waiting := g } }
    let two := { callRunning .closing [.encode j, .decode decodeOf] with pwq := { entries := [], waiting := g } }
    one.dueStep = some .discard ∧ one.pwq.waiting = .egress 0 0 [(1, fullWord 0 0 0 0)] :: [] ∧ 0 < one.ctxs.length ∧
      (one.ctx 0).runningJobs = 1 ∧ two.dueStep = some .discard ∧ (two.ctx 0).runningJobs = 2 := by decide +kernel

/-- The call with 56 words queued, of which a waiting notice group leaves one word too few. -/
def shortByOne : State :=
  { call with pwq := { entries := List.replicate 56 word0, waiting := [.notice (List.replicate 9 word0)] } }

/-- The RUNNING card with R169's conditions met at their bounds. -/
def quietAtBound : State :=
  { live with part := { live.part with quietLimit := 4 }, ntw := { live.ntw with producer := 1, timer := 32 } }

/-- A head that waits for one word of space, and an empty order. -/
theorem witness_orderRests : shortByOne.orderRests ∧ quietAtBound.orderRests := by
  refine ⟨fun g rest h => ?_, fun g rest h => ?_⟩
  · have h' : [Group.notice (List.replicate 9 word0)] = g :: rest := h
    injection h' with hg _
    subst hg
    exact ⟨by decide, fun _ _ _ h => by cases h⟩
  · have h' : ([] : List Group) = g :: rest := h
    cases h'

theorem witness_QuietTimeout : quietAtBound.dueStep = some .quiet ∧ quietAtBound.timeoutMet := by decide +kernel

/-- A full ring and one with room; every edge flag clear and set. -/
theorem witness_NoticeRing :
    let full := { live with ntw := { live.ntw with producer := 127 } }
    (List.replicate 9 0 : List Nat).length = 9 ∧ 0 < live.ctxs.length ∧
      (full.ntw.producer + full.ntw.waiting + 1) % full.win.nn = full.ntw.consumer ∧
      (live.ntw.producer + live.ntw.waiting + 1) % live.win.nn ≠ live.ntw.consumer := by decide +kernel

theorem witness_speech_frames : (List.replicate 160 (-32768) : List Int).length = 160 ∧
    (∀ x ∈ (List.replicate 160 (-32768) : List Int), Linear x) ∧ Linear 32767 := by decide +kernel

/-- An active frame after silence is sent with the onset flag. -/
theorem witness_OnsetFrameDecodes :
    let j := encodeOf (.silent 3) true
    j.codes.length = 160 ∧ j.request ≤ 3 ∧ (encodeWork j).frame.map (·.onset) = some true := by decide +kernel

/-- A clamped and an unclamped magnitude; bounds of the attenuation's shift. -/
theorem witness_CompressionTruncates :
    Linear 32767 ∧ Linear (-32768) ∧ largestMagnitude .seg15 < Int.natAbs 32767 ∧ Int.natAbs 32635 ≤ largestMagnitude .seg15 ∧
      Linear 0 ∧ (0 : Int) ≤ 32767 := by decide

/-- A rise and a fall of both levels, in both talk states. -/
theorem witness_DetectorStep :
    Detector.bounded { level := 0, floor := 8323072, talk := .quiet } ∧
      Detector.bounded { level := 8323072, floor := 0, talk := .talking } ∧ (0 : Nat) < 65536 * 127 ∧ 65536 * 127 ≤ 8323072 := by
  decide

/-- A suppressed frame of the call, and hangover settings at both ends. -/
theorem witness_FrameKinds :
    echoSuppressed { encodeOf .speech true with echoShift := 2, outTalk := .talking, outLevel := 2621440, inLevel := 1966080 } =
      true ∧ (0 : Nat) ≤ 15 ∧ (15 : Nat) ≤ 15 := by decide

theorem witness_MasterIsGranted : (waitingFor [.status word0]).groupsSmall ∧ call.groupsSmall := by decide +kernel

/-- An access that waits for a drain, for a fetch read of each kind, and for none. -/
theorem witness_MasterIsGranted_waits :
    (contended 32 4 0 0 false).settle.portChoice true = some .pwq ∧ (contended 32 4 0 0 false).groupsSmall ∧
      (contended 31 4 8 0 true).settle.portChoice true = some .ffu ∧ (contended 31 4 8 0 true).groupsSmall ∧
      ({ fetchOf false (.body 84 500 1 []) 84 0x80 with mpa := { drainCount := 0, fetchCount := 8 } }).settle.portChoice true =
        some .ffu ∧
      (contended 31 4 7 0 true).settle.portChoice true = some .master := by decide +kernel

/-! The reset state, which steps, meets the law of every invariant. -/

theorem reset_steps : step State.reset = .next State.reset.settle := rfl

theorem ctx_of_reset (k : Nat) : State.reset.ctx k = Context.cleared := by
  by_cases h : k < State.reset.ctxs.length
  · rw [State.ctx, List.getD_eq_getElem _ _ h]; exact List.eq_of_mem_replicate (List.getElem_mem h)
  · rw [State.ctx, List.getD_eq_default _ _ (by omega)]

theorem ctxs_of_reset : ∀ c ∈ State.reset.ctxs, c = Context.cleared := fun _ h => List.eq_of_mem_replicate h

theorem taps_of_reset (t : Nat) : State.reset.tapSet t = [] := by
  by_cases h : t < State.reset.tsm.taps.length
  · rw [State.tapSet, List.getD_eq_getElem _ _ h]; exact List.eq_of_mem_replicate (List.getElem_mem h)
  · rw [State.tapSet, List.getD_eq_default _ _ (by omega)]

theorem claims_of_reset (t : Nat) : State.reset.claimList t = [] := by
  by_cases h : t < State.reset.tsm.claims.length
  · rw [State.claimList, List.getD_eq_getElem _ _ h]; exact List.eq_of_mem_replicate (List.getElem_mem h)
  · rw [State.claimList, List.getD_eq_default _ _ (by omega)]

theorem witness_BlockLawsKept :
    State.reset.queueLaw ∧ State.reset.laneLaw ∧ State.reset.memoryLaw ∧ State.reset.fetchLaw ∧ State.reset.sizeLaw :=
  ⟨by decide +kernel, by decide +kernel, by decide +kernel, ⟨by decide +kernel, by decide +kernel, rfl, by decide +kernel⟩,
    ⟨by decide +kernel, fun _ h => (by cases h), by decide +kernel⟩⟩

theorem witness_RangesKept :
    State.reset.counterLaw ∧ State.reset.detectorLaw ∧ State.reset.coderLaw ∧ State.reset.rangeLaw :=
  ⟨by decide +kernel, by decide +kernel,
    ⟨by decide +kernel, fun c h => by
      rw [ctxs_of_reset c h]
      exact ⟨by decide +kernel, ⟨by decide, by decide, Nat.zero_le _⟩, by decide, fun h => absurd rfl h, fun _ h => by cases h⟩,
      fun _ h => (by cases h), fun _ h => by cases h⟩, by decide +kernel⟩

theorem witness_LinesFollowRules : State.reset.lineLaw := by decide +kernel

theorem witness_MapLawKept : State.reset.mapLaw := by
  refine ⟨by decide +kernel, by decide +kernel, by decide +kernel, by decide +kernel, fun t _ => ?_, fun k _ h => ?_,
    fun k _ t _ => ?_⟩
  · simp [taps_of_reset, claims_of_reset]
  · rw [ctx_of_reset] at h; cases h
  · simp [taps_of_reset, claims_of_reset, ctx_of_reset, Context.cleared]

theorem witness_TagLawKept : State.reset.tagLaw := by
  refine ⟨by decide +kernel, by decide +kernel, fun _ h => (by cases h), fun k _ tag => ?_⟩
  have hno : State.reset.tags = [] := rfl
  simp [hno, ctx_of_reset, Context.cleared]

theorem witness_PlayoutLawKept : State.reset.playoutLaw :=
  ⟨by decide +kernel, by decide +kernel, fun c h => by rw [ctxs_of_reset c h]; rfl⟩

theorem witness_PoolLawKept : State.reset.lowLaw ∧ State.reset.playoutLaw ∧ State.reset.poolLaw :=
  ⟨by decide, witness_PlayoutLawKept, by decide +kernel⟩

theorem witness_JobLawKept : State.reset.jobLaw := by
  refine ⟨by decide +kernel, fun k _ => ?_, by decide +kernel, by decide +kernel, fun _ h => by cases h⟩
  simp only [State.contextJobs, ctx_of_reset]
  exact ⟨rfl, Nat.zero_le _, Nat.zero_le _, Nat.zero_le _, Nat.zero_le _, rfl, rfl, rfl, rfl⟩

theorem witness_SlotLawKept : State.reset.jobLaw ∧ State.reset.slotLaw :=
  ⟨witness_JobLawKept, by decide +kernel, by decide +kernel, by decide +kernel, by decide +kernel⟩

end Sys2Proof.Tests
end

/-! Companding (R3 to R10): a law cuts the magnitudes into 128 intervals, in the order of segment and step. Compression names the
interval of the adjusted magnitude, expansion picks a point of the named interval; all else follows from the order. -/
namespace Sys2Proof.Machine

/-! ### Codes from sign, segment and step (R3) -/

/-- The plain sign bit of a number: the 13-segment law sets it for 0 and above, the 15-segment law below 0. -/
def signBit : Law → Bool → Bool
  | .seg13, negative => !negative
  | .seg15, negative => negative

/-- The code of a sign, a segment and a step. -/
def fieldsCode (law : Law) (negative : Bool) (e m : Nat) : Byte := invert law (plainByte (signBit law negative) e m)

@[simp] theorem signBit_signBit (law : Law) (b : Bool) : signBit law (signBit law b) = b := by
  cases law <;> simp [signBit]

@[simp] theorem invert_invert (law : Law) (c : Byte) : invert law (invert law c) = c := by
  cases law with
  | seg13 => simp [invert]
  | seg15 => simp [invert]

theorem plainSign_iff (b : Byte) : plainSign b = true ↔ 128 ≤ b.toNat := by
  have hmsb : b.getLsbD 7 = b.msb := (BitVec.msb_eq_getLsbD_last b).symm
  rw [plainSign, hmsb, BitVec.msb_eq_decide, decide_eq_true_iff]

section
variable {e m : Nat} (he : e < 8) (hm : m < 16)
include he hm

theorem plainByte_toNat (s : Bool) : (plainByte s e m).toNat = (if s then 128 else 0) + 16 * e + m := by
  rw [plainByte, BitVec.toNat_ofNat, Nat.mod_eq_of_lt]
  split <;> omega

theorem plainSign_plainByte (s : Bool) : plainSign (plainByte s e m) = s := by
  rw [Bool.eq_iff_iff, plainSign_iff, plainByte_toNat he hm]
  cases s <;> simp <;> omega

theorem plainSegment_plainByte (s : Bool) : plainSegment (plainByte s e m) = e := by
  rw [plainSegment, plainByte_toNat he hm]
  split <;> omega

theorem plainStep_plainByte (s : Bool) : plainStep (plainByte s e m) = m := by
  rw [plainStep, plainByte_toNat he hm]
  split <;> omega

/-- R4, R7: expansion of a code by its fields. -/
theorem expand_fieldsCode (law : Law) (negative : Bool) :
    expand law (fieldsCode law negative e m) =
      if negative then -(reconstruction law e m : Int) else reconstruction law e m := by
  simp only [expand, fieldsCode, invert_invert, plainSign_plainByte he hm, plainSegment_plainByte he hm,
    plainStep_plainByte he hm]
  cases law <;> cases negative <;> rfl

end

theorem plainByte_fields (b : Byte) : plainByte (plainSign b) (plainSegment b) (plainStep b) = b := by
  have hs := plainSign_iff b
  have hb := b.isLt
  apply BitVec.eq_of_toNat_eq
  have he : plainSegment b < 8 := Nat.mod_lt _ (by decide)
  have hm : plainStep b < 16 := Nat.mod_lt _ (by decide)
  rw [plainByte_toNat he hm]
  simp only [hs, plainSegment, plainStep]
  split <;> omega

/-- Every code is the code of its fields. -/
theorem exists_fieldsCode (law : Law) (c : Byte) :
    ∃ negative e m, e < 8 ∧ m < 16 ∧ c = fieldsCode law negative e m := by
  refine ⟨signBit law (plainSign (invert law c)), plainSegment (invert law c), plainStep (invert law c),
    Nat.mod_lt _ (by decide), Nat.mod_lt _ (by decide), ?_⟩
  rw [fieldsCode, signBit_signBit, plainByte_fields, invert_invert]

/-! ### The intervals of R5's and R8's tables -/

/-- The interval of segment `e`, step `m` holds the magnitude `n`. -/
def InInterval (law : Law) (e m n : Nat) : Prop := intervalLow law e m ≤ n ∧ n ≤ intervalHigh law e m

/-- The magnitude of `x` after step 1 of compression. -/
def adjusted (law : Law) (x : Int) : Nat := min x.natAbs (largestMagnitude law)

/-- The length of the intervals of segment `e`. -/
def intervalLength (law : Law) (e : Nat) : Nat := if law = .seg13 ∧ e = 0 then 16 else 2 ^ (e + 3)

/-- A bound between intervals, a multiple of 2^(e+3): the 13-segment law's from segment 1 on, the 15-segment law's before
its 132 is taken off. -/
def gridBound (e m : Nat) : Nat := (16 + m) * 2 ^ (e + 3)

theorem gridBound_succ (e m : Nat) : gridBound e (m + 1) = gridBound e m + 2 ^ (e + 3) := by
  simp only [gridBound]; ring

theorem gridBound_ge (e m : Nat) : 16 * 2 ^ (e + 3) ≤ gridBound e m := Nat.mul_le_mul_right _ (by omega)

theorem gridBound_mono {e m e' m' : Nat} (hm : m ≤ 16) (h : e < e' ∨ e = e' ∧ m ≤ m') :
    gridBound e m ≤ gridBound e' m' := by
  obtain he | ⟨rfl, hle⟩ := h
  · calc gridBound e m ≤ 32 * 2 ^ (e + 3) := Nat.mul_le_mul_right _ (by omega)
      _ = 16 * 2 ^ (e + 1 + 3) := by ring
      _ ≤ 16 * 2 ^ (e' + 3) := Nat.mul_le_mul_left _ (Nat.pow_le_pow_right (by decide) (by omega))
      _ ≤ gridBound e' m' := gridBound_ge e' m'
  · exact Nat.mul_le_mul_right _ (by omega)

theorem nextBound_eq (e m : Nat) : (17 + m) * 2 ^ (e + 3) = gridBound e (m + 1) := by
  simp only [gridBound]; ring

/-- The middle between two neighbouring bounds. -/
theorem middleBound_eq (e m : Nat) : (2 * m + 33) * 2 ^ (e + 2) = gridBound e m + 2 ^ (e + 2) := by
  simp only [gridBound]; ring

section
variable (e m : Nat)

theorem intervalLow_zero : intervalLow .seg13 0 m = 16 * m := rfl
theorem intervalHigh_zero : intervalHigh .seg13 0 m = 16 * m + 15 := rfl
theorem reconstruction_zero : reconstruction .seg13 0 m = 16 * m + 8 := rfl
theorem intervalLow_seg13 (he : e ≠ 0) : intervalLow .seg13 e m = gridBound e m := if_neg he
theorem intervalHigh_seg13 (he : e ≠ 0) : intervalHigh .seg13 e m = gridBound e (m + 1) - 1 :=
  (if_neg he).trans (congrArg (· - 1) (nextBound_eq e m))
theorem reconstruction_seg13 (he : e ≠ 0) : reconstruction .seg13 e m = gridBound e m + 2 ^ (e + 2) :=
  (if_neg he).trans (middleBound_eq e m)
theorem intervalLow_seg15 : intervalLow .seg15 e m = gridBound e m - 132 := rfl
theorem intervalHigh_seg15 : intervalHigh .seg15 e m = gridBound e (m + 1) - 133 :=
  congrArg (· - 133) (nextBound_eq e m)
theorem reconstruction_seg15 : reconstruction .seg15 e m = gridBound e m + 2 ^ (e + 2) - 132 :=
  congrArg (· - 132) (middleBound_eq e m)

end

theorem intervalHigh_lt_intervalLow (law : Law) {e m e' m' : Nat} (hm : m < 16) (h : e < e' ∨ e = e' ∧ m < m') :
    intervalHigh law e m < intervalLow law e' m' := by
  have hbound : gridBound e (m + 1) ≤ gridBound e' m' := gridBound_mono hm h
  have hpos : 2 ^ (0 + 3) ≤ 2 ^ (e + 3) := Nat.pow_le_pow_right (by decide) (by omega)
  have hlow := gridBound_ge e m
  have hnext := gridBound_succ e m
  cases law with
  | seg15 => rw [intervalHigh_seg15, intervalLow_seg15]; omega
  | seg13 =>
    rcases eq_or_ne e 0 with rfl | hne
    · rcases eq_or_ne e' 0 with rfl | hne'
      · rw [intervalHigh_zero, intervalLow_zero]; omega
      · have : gridBound 1 0 ≤ gridBound e' m' := gridBound_mono (by decide) (by omega)
        rw [intervalHigh_zero, intervalLow_seg13 _ _ hne']
        calc 16 * m + 15 < gridBound 1 0 := by rw [show gridBound 1 0 = 256 from rfl]; omega
          _ ≤ gridBound e' m' := this
    · rw [intervalHigh_seg13 _ _ hne, intervalLow_seg13 _ _ (by omega)]; omega

/-- Intervals that hold `n` and a magnitude at least `n` stand in this order. -/
theorem InInterval.order {law : Law} {e m e' m' n n' : Nat} (hm' : m' < 16) (h : InInterval law e m n)
    (h' : InInterval law e' m' n') (hn : n ≤ n') : e < e' ∨ e = e' ∧ m ≤ m' := by
  obtain ⟨hlow, -⟩ := h
  obtain ⟨-, hhigh'⟩ := h'
  by_contra hnot
  have := intervalHigh_lt_intervalLow law hm' (show e' < e ∨ e' = e ∧ m' < m by omega)
  omega

/-- No magnitude is in two intervals. -/
theorem InInterval.unique {law : Law} {e m e' m' n : Nat} (hm : m < 16) (hm' : m' < 16) (h : InInterval law e m n)
    (h' : InInterval law e' m' n) : e = e' ∧ m = m' := by
  have := h.order hm' h' le_rfl
  have := h'.order hm h le_rfl
  omega

/-- The reconstruction value is half an interval's length from either end. -/
theorem reconstruction_middle (law : Law) (e m : Nat) :
    reconstruction law e m ≤ intervalLow law e m + intervalLength law e / 2 ∧
      intervalHigh law e m + 1 = reconstruction law e m + intervalLength law e / 2 := by
  have hlow := gridBound_ge e m
  have hnext := gridBound_succ e m
  have hhalf : 2 ^ (e + 3) = 2 * 2 ^ (e + 2) := by ring
  have hpos : 2 ^ (0 + 2) ≤ 2 ^ (e + 2) := Nat.pow_le_pow_right (by decide) (by omega)
  cases law with
  | seg15 =>
    rw [reconstruction_seg15, intervalLow_seg15, intervalHigh_seg15, intervalLength, if_neg (by simp)]
    omega
  | seg13 =>
    rcases eq_or_ne e 0 with rfl | hne
    · rw [reconstruction_zero, intervalLow_zero, intervalHigh_zero, intervalLength, if_pos ⟨rfl, rfl⟩]
      omega
    · rw [reconstruction_seg13 _ _ hne, intervalLow_seg13 _ _ hne, intervalHigh_seg13 _ _ hne,
        intervalLength, if_neg (by omega)]
      omega

theorem reconstruction_inInterval (law : Law) (e m : Nat) : InInterval law e m (reconstruction law e m) := by
  have hhalf : 0 < 2 ^ (e + 2) := Nat.two_pow_pos _
  have hpos : 2 ^ (0 + 3) ≤ 2 ^ (e + 3) := Nat.pow_le_pow_right (by decide) (by omega)
  have hlength : 2 ≤ intervalLength law e := by rw [intervalLength]; split <;> omega
  obtain ⟨-, hhigh⟩ := reconstruction_middle law e m
  refine ⟨?_, by omega⟩
  cases law with
  | seg15 => rw [reconstruction_seg15, intervalLow_seg15]; omega
  | seg13 =>
    rcases eq_or_ne e 0 with rfl | hne
    · rw [reconstruction_zero, intervalLow_zero]; omega
    · rw [reconstruction_seg13 _ _ hne, intervalLow_seg13 _ _ hne]; omega

/-- No interval reaches past the largest magnitude. -/
theorem intervalHigh_le_largestMagnitude (law : Law) {e m : Nat} (he : e < 8) (hm : m < 16) :
    intervalHigh law e m ≤ largestMagnitude law := by
  have htop : intervalHigh law 7 15 = largestMagnitude law := by cases law <;> rfl
  rcases Nat.lt_or_ge (16 * e + m) 127 with hlt | hge
  · have := intervalHigh_lt_intervalLow law hm (show e < 7 ∨ e = 7 ∧ m < 15 by omega)
    have htopLow : intervalLow law 7 15 ≤ intervalHigh law 7 15 := by cases law <;> decide
    omega
  · obtain ⟨rfl, rfl⟩ : e = 7 ∧ m = 15 := by omega
    exact htop.le

/-- Reconstruction keeps the order of magnitudes. -/
theorem InInterval.reconstruction_le {law : Law} {e m e' m' n n' : Nat} (hm : m < 16) (hm' : m' < 16)
    (h : InInterval law e m n) (h' : InInterval law e' m' n') (hn : n ≤ n') :
    reconstruction law e m ≤ reconstruction law e' m' := by
  by_cases heq : e = e' ∧ m = m'
  · obtain ⟨rfl, rfl⟩ := heq; exact le_rfl
  · have horder := h.order hm' h' hn
    calc reconstruction law e m ≤ intervalHigh law e m := (reconstruction_inInterval law e m).2
      _ ≤ intervalLow law e' m' := (intervalHigh_lt_intervalLow law hm (by omega)).le
      _ ≤ reconstruction law e' m' := (reconstruction_inInterval law e' m').1

/-! ### Compression names the interval -/

/-- A quotient by 2^(e+3) names the two bounds around a number. -/
theorem between_gridBounds {e m n : Nat} (h : n / 2 ^ (e + 3) = 16 + m) : gridBound e m ≤ n ∧ n < gridBound e (m + 1) := by
  have hpos : 0 < 2 ^ (e + 3) := Nat.two_pow_pos _
  obtain ⟨hle, hlt⟩ := (Nat.div_eq_iff hpos).mp h
  rw [gridBound_succ]
  exact ⟨hle, by simp only [gridBound]; omega⟩

/-- R5 step 4, for the eighths of an adjusted magnitude. -/
theorem segment13_spec {y : Nat} (hy : y < 4096) :
    segment13 y < 8 ∧ (segment13 y = 0 → y < 32) ∧
      (segment13 y ≠ 0 → 16 ≤ y / 2 ^ segment13 y ∧ y / 2 ^ segment13 y < 32) := by
  unfold segment13
  split_ifs <;> norm_num <;> omega

/-- R8 step 3, for an adjusted magnitude raised by 132. -/
theorem segment15_spec {y : Nat} (hlow : 132 ≤ y) (hhigh : y < 32768) :
    segment15 y < 8 ∧ 16 ≤ y / 2 ^ (segment15 y + 3) ∧ y / 2 ^ (segment15 y + 3) < 32 := by
  unfold segment15
  split_ifs <;> norm_num <;> omega

/-- R5 by its fields. -/
theorem compress13_eq {x : Int} {e : Nat} (h : segment13 (adjusted .seg13 x / 8) = e) :
    compress13 x = fieldsCode .seg13 (decide (x < 0)) e
      (if e = 0 then adjusted .seg13 x / 8 / 2 else adjusted .seg13 x / 8 / 2 ^ e - 16) := by
  have hsign : signBit .seg13 (decide (x < 0)) = decide (0 ≤ x) := by
    rw [signBit, ← decide_not, decide_eq_decide]; exact Int.not_lt
  subst h
  rw [fieldsCode, hsign]
  rfl

/-- R8 by its fields. -/
theorem compress15_eq {x : Int} {e : Nat} (h : segment15 (adjusted .seg15 x + 132) = e) :
    compress15 x = fieldsCode .seg15 (decide (x < 0)) e ((adjusted .seg15 x + 132) / 2 ^ (e + 3) % 16) := by
  subst h
  rfl

theorem compress13_spec (x : Int) : ∃ e m, e < 8 ∧ m < 16 ∧ compress13 x = fieldsCode .seg13 (decide (x < 0)) e m ∧
    InInterval .seg13 e m (adjusted .seg13 x) := by
  have hy : adjusted .seg13 x / 8 < 4096 := Nat.div_lt_of_lt_mul (Nat.lt_succ_of_le (min_le_right _ _))
  obtain ⟨he, hzero, hpos⟩ := segment13_spec hy
  generalize hseg : segment13 (adjusted .seg13 x / 8) = e at he hzero hpos
  have hcode := compress13_eq hseg
  rcases eq_or_ne e 0 with rfl | hne
  · have := hzero rfl
    rw [if_pos rfl] at hcode
    refine ⟨0, _, he, by omega, hcode, ?_⟩
    rw [InInterval, intervalLow_zero, intervalHigh_zero]; omega
  · rw [if_neg hne] at hcode
    obtain ⟨hge, hlt⟩ := hpos hne
    refine ⟨e, _, he, by omega, hcode, ?_⟩
    have hquot : adjusted .seg13 x / 2 ^ (e + 3) = adjusted .seg13 x / 8 / 2 ^ e := by
      rw [Nat.div_div_eq_div_mul, pow_add, mul_comm]; rfl
    have hbounds := between_gridBounds (hquot.trans (Nat.add_sub_of_le hge).symm)
    rw [InInterval, intervalLow_seg13 _ _ hne, intervalHigh_seg13 _ _ hne]; omega

theorem compress15_spec (x : Int) : ∃ e m, e < 8 ∧ m < 16 ∧ compress15 x = fieldsCode .seg15 (decide (x < 0)) e m ∧
    InInterval .seg15 e m (adjusted .seg15 x) := by
  have hy : adjusted .seg15 x + 132 < 32768 :=
    Nat.lt_succ_of_le (Nat.add_le_add_right (min_le_right _ _) 132)
  obtain ⟨he, hge, hlt⟩ := segment15_spec (Nat.le_add_left 132 _) hy
  generalize hseg : segment15 (adjusted .seg15 x + 132) = e at he hge hlt
  refine ⟨e, _, he, Nat.mod_lt _ (by decide), compress15_eq hseg, ?_⟩
  have hbounds := between_gridBounds (e := e) (m := (adjusted .seg15 x + 132) / 2 ^ (e + 3) % 16) (n := adjusted .seg15 x + 132)
    (by omega)
  rw [InInterval, intervalLow_seg15, intervalHigh_seg15]; omega

/-- R10: the code of `x` has the sign of `x` and names the interval of its adjusted magnitude. -/
theorem compress_spec (law : Law) (x : Int) : ∃ e m, e < 8 ∧ m < 16 ∧
    compress law x = fieldsCode law (decide (x < 0)) e m ∧ InInterval law e m (adjusted law x) := by
  cases law with
  | seg13 => exact compress13_spec x
  | seg15 => exact compress15_spec x

/-! ### What follows for expansion after compression -/

theorem expand_compress_of_interval {law : Law} {x : Int} {e m : Nat} (he : e < 8) (hm : m < 16)
    (h : InInterval law e m (adjusted law x)) :
    expand law (compress law x) = if x < 0 then -(reconstruction law e m : Int) else reconstruction law e m := by
  obtain ⟨e', m', he', hm', hcode, h'⟩ := compress_spec law x
  obtain ⟨rfl, rfl⟩ := h.unique hm hm' h'
  rw [hcode, expand_fieldsCode he hm]
  simp only [decide_eq_true_eq]

/-- The adjustment only lowers 32768 to 32767, except for the clamped magnitudes of the 15-segment law. -/
theorem natAbs_le_adjusted {law : Law} {x : Int} (hx : Linear x) (h : x.natAbs ≤ largestMagnitude law ∨ law = .seg13) :
    x.natAbs ≤ adjusted law x + 1 := by
  obtain ⟨hmin, hmax⟩ := hx
  rw [adjusted]
  rcases h with h | rfl
  · omega
  · rw [show largestMagnitude .seg13 = 32767 from rfl]; omega

/-- R10: expansion is at most half an interval's length off a value that the adjustment lowers by 1 at most. -/
theorem expand_compress_near {law : Law} {x : Int} {e m : Nat} (he : e < 8) (hm : m < 16)
    (h : InInterval law e m (adjusted law x)) (hx : x.natAbs ≤ adjusted law x + 1) :
    (expand law (compress law x) - x).natAbs ≤ intervalLength law e / 2 := by
  rw [expand_compress_of_interval he hm h]
  obtain ⟨hleft, hright⟩ := reconstruction_middle law e m
  obtain ⟨hlow, hhigh⟩ := h
  have hle : adjusted law x ≤ x.natAbs := min_le_left _ _
  split <;> omega

/-- R8 step 1: a clamped magnitude is in the last interval. -/
theorem expand_compress_clamped {x : Int} (h : largestMagnitude .seg15 < x.natAbs) :
    expand .seg15 (compress .seg15 x) = if x < 0 then -32124 else 32124 := by
  have hadjusted : adjusted .seg15 x = largestMagnitude .seg15 := min_eq_right h.le
  have hin : InInterval .seg15 7 15 (adjusted .seg15 x) := by
    rw [hadjusted]
    exact ⟨by decide, by decide⟩
  have htop : reconstruction .seg15 7 15 = 32124 := by decide
  rw [expand_compress_of_interval (by decide) (by decide) hin, htop]
  norm_cast

theorem adjusted_mono (law : Law) {x y : Int} (h : x.natAbs ≤ y.natAbs) : adjusted law x ≤ adjusted law y :=
  min_le_min_right _ h

/-- Compression keeps the order of linear values. -/
theorem expand_compress_mono (law : Law) {x y : Int} (hxy : x ≤ y) :
    expand law (compress law x) ≤ expand law (compress law y) := by
  obtain ⟨e, m, he, hm, -, hx⟩ := compress_spec law x
  obtain ⟨e', m', he', hm', -, hy⟩ := compress_spec law y
  rw [expand_compress_of_interval he hm hx, expand_compress_of_interval he' hm' hy]
  rcases lt_or_ge x 0 with hneg | hpos
  · rcases lt_or_ge y 0 with hneg' | hpos'
    · have := hy.reconstruction_le hm' hm hx (adjusted_mono law (by omega))
      rw [if_pos hneg, if_pos hneg']; omega
    · rw [if_pos hneg, if_neg (by omega)]; omega
  · have := hx.reconstruction_le hm hm' hy (adjusted_mono law (by omega))
    rw [if_neg (by omega), if_neg (by omega)]; omega

/-- A code survives expansion and compression unless it is a negative zero. -/
theorem compress_expand_fieldsCode (law : Law) (negative : Bool) {e m : Nat} (he : e < 8) (hm : m < 16)
    (h : negative = true → 0 < reconstruction law e m) :
    compress law (expand law (fieldsCode law negative e m)) = fieldsCode law negative e m := by
  rw [expand_fieldsCode he hm]
  generalize hx : (if negative then -(reconstruction law e m : Int) else reconstruction law e m) = x
  have habs : x.natAbs = reconstruction law e m := by rw [← hx]; split <;> omega
  have hsign : decide (x < 0) = negative := by
    rw [← hx]; cases negative with
    | false => simp
    | true => simpa using h rfl
  have hin := reconstruction_inInterval law e m
  have hadjusted : adjusted law x = reconstruction law e m := by
    rw [adjusted, habs, min_eq_left (hin.2.trans (intervalHigh_le_largestMagnitude law he hm))]
  obtain ⟨e', m', -, hm', hcode, h'⟩ := compress_spec law x
  rw [hadjusted] at h'
  obtain ⟨rfl, rfl⟩ := hin.unique hm hm' h'
  rw [hcode, hsign]

theorem compress13_expand (c : Byte) : compress .seg13 (expand .seg13 c) = c := by
  obtain ⟨negative, e, m, he, hm, rfl⟩ := exists_fieldsCode .seg13 c
  refine compress_expand_fieldsCode .seg13 negative he hm fun _ => ?_
  rcases eq_or_ne e 0 with rfl | hne
  · rw [reconstruction_zero]; omega
  · have := Nat.two_pow_pos (e + 2)
    rw [reconstruction_seg13 _ _ hne]; omega

/-- 7FH is the negative zero of the 15-segment law. -/
theorem compress15_expand {c : Byte} (hc : c ≠ 0x7F) : compress .seg15 (expand .seg15 c) = c := by
  obtain ⟨negative, e, m, he, hm, rfl⟩ := exists_fieldsCode .seg15 c
  refine compress_expand_fieldsCode .seg15 negative he hm fun hneg => ?_
  have hne : ¬(e = 0 ∧ m = 0) := by
    rintro ⟨rfl, rfl⟩
    rw [hneg] at hc
    exact hc (by decide)
  have hlow := intervalHigh_lt_intervalLow .seg15 (show 0 < 16 by decide) (show 0 < e ∨ 0 = e ∧ 0 < m by omega)
  have := (reconstruction_inInterval .seg15 e m).1
  omega

/-- Settles O45: the code of `x` names the one interval that holds its adjusted magnitude, and later codes name later
intervals. -/
theorem compressionTruncates : Obligations.CompressionTruncates := by
  refine ⟨fun law x hx => ?_, fun law _ _ _ _ => expand_compress_mono law, compress13_expand, fun _ => compress15_expand⟩
  obtain ⟨e, m, he, hm, hcode, hin⟩ := compress_spec law x
  have hplain : invert law (compress law x) = plainByte (signBit law (decide (x < 0))) e m := by
    rw [hcode, fieldsCode, invert_invert]
  have hsegment : (invert law (compress law x)).toNat / 16 % 8 = e := by rw [hplain]; exact plainSegment_plainByte he hm _
  have hstep : (invert law (compress law x)).toNat % 16 = m := by rw [hplain]; exact plainStep_plainByte he hm _
  have hsign : (invert law (compress law x)).getLsbD 7 = signBit law (decide (x < 0)) := by
    rw [hplain]; exact plainSign_plainByte he hm _
  have hexpand := expand_compress_of_interval he hm hin
  have habs : (expand law (compress law x)).natAbs = reconstruction law e m := by rw [hexpand]; split <;> omega
  intro b e' m' n
  rw [show e' = e from hsegment, show m' = m from hstep, show b.getLsbD 7 = _ from hsign, habs]
  obtain ⟨hlow, hhigh⟩ := reconstruction_inInterval law e m
  refine ⟨hin.1, hin.2, hlow, hhigh, ?_, hexpand, fun h => expand_compress_near he hm hin (natAbs_le_adjusted hx h), ?_⟩
  · cases law with
    | seg13 => simp [signBit]
    | seg15 => simp [signBit]
  · rintro h rfl
    exact expand_compress_clamped h

end Sys2Proof.Machine

/-! The block delta coder (R19, R20, R24, R25): the four sub-blocks are unrolled once, so that each step index is the choice
for its own 40 inputs and each sample is coded from the reconstruction before it; the rest is a fact about one choice or one
sample. A list with its first predecessor in front, `prev :: xs`, holds at index `i` what stands before sample `i`. -/
namespace Sys2Proof.Machine

/-! ### The arithmetic of one sample (R19, R20, R25) -/

theorem clamp_eq_max_min {a b : Int} (h : a ≤ b) (x : Int) : clamp a b x = max a (min b x) := by
  unfold clamp
  split <;> omega

theorem clampSample_eq (x : Int) : clampSample x = max (-32768) (min 32767 x) :=
  clamp_eq_max_min (by decide) x

theorem pred_eq (v : Int) : pred v = 7 * v / 8 := rfl

/-- R24 step 2, R25 step 2: the range of a residual. -/
theorem residual_range {x before : Int} (hx : Linear x) (hbefore : Linear before) :
    -61439 ≤ x - pred before ∧ x - pred before ≤ 61439 := by
  rw [pred_eq]
  omega

theorem reconstruct_eq (delta : Nat) (before k : Int) :
    reconstruct delta before k = max (-32768) (min 32767 (7 * before / 8 + k * delta)) := by
  rw [reconstruct, clampSample_eq, pred_eq]

theorem reconstruct_linear (delta : Nat) (before k : Int) : Linear (reconstruct delta before k) := by
  rw [reconstruct_eq]
  omega

theorem stepSize_pos {q : Nat} (hq : q ≤ 15) : 0 < stepSize q := by
  interval_cases q <;> decide

/-- R25 step 3: the code is in range, and nearest to e ÷ Δ, an exact half upward, from each side where it is not clamped. -/
theorem quantise_spec {l delta : Nat} (hl : 0 < l) (hdelta : 0 < delta) (before x : Int) :
    let k := quantise l delta before x
    let e := x - pred before
    k ≤ l - 1 ∧ -l ≤ k ∧ (-l < k → 2 * (k * delta) ≤ 2 * e + delta) ∧
      (k < l - 1 → 2 * e + delta < 2 * (k * delta) + 2 * delta) := by
  intro k e
  have hpos : (0 : Int) < 2 * delta := by omega
  have hk : k = max (-l : Int) (min (l - 1) ((2 * e + delta) / (2 * delta))) := clamp_eq_max_min (by omega) _
  refine ⟨by omega, by omega, fun hlow => ?_, fun hhigh => ?_⟩
  · have hle : k ≤ (2 * e + delta) / (2 * delta) := by omega
    linarith [(Int.le_ediv_iff_mul_le hpos).1 hle]
  · have hlt : (2 * e + delta) / (2 * delta) < k + 1 := by omega
    linarith [(Int.ediv_lt_iff_lt_mul hpos).1 hlt]

/-! ### The choice of one step (R24) -/

theorem chooseStep_spec (l peak : Nat) :
    let q := chooseStep l peak
    q ≤ 15 ∧ (peak ≤ stepSize q * (l - 1) ∨ q = 15) ∧ ∀ p < q, stepSize p * (l - 1) < peak := by
  unfold chooseStep
  cases hfind : (List.range 16).find? fun q => decide (peak ≤ stepSize q * (l - 1)) with
  | none =>
    rw [List.find?_range_eq_none] at hfind
    exact ⟨le_rfl, .inr rfl, fun p hp => by simpa using hfind p (Nat.lt_succ_of_lt hp)⟩
  | some q =>
    obtain ⟨hreach, hq, hbelow⟩ := List.find?_range_eq_some.1 hfind
    exact ⟨Nat.le_of_lt_succ (List.mem_range.1 hq), .inl (by simpa using hreach), fun p hp => by simpa using hbelow p hp⟩

theorem stepIndex_le (l : Nat) (prev : Int) (xs : List Int) : stepIndex l prev xs ≤ 15 := (chooseStep_spec l _).1

/-- The open-loop residual of sample `i` (R24 step 1). -/
def residualAt (prev : Int) (xs : List Int) (i : Nat) : Nat := (xs.getD i 0 - pred ((prev :: xs).getD i 0)).natAbs

theorem openLoop_eq_map (prev : Int) (xs : List Int) :
    openLoop prev xs = (List.range xs.length).map (residualAt prev xs) := by
  induction xs generalizing prev with
  | nil => rfl
  | cons x xs ih =>
    rw [openLoop, ih, List.length_cons, List.range_succ_eq_map, List.map_cons, List.map_map]
    rfl

/-- R24 step 2: the peak is one of the residuals and bounds them all. -/
theorem openLoop_peak {xs : List Int} (h : xs ≠ []) (prev : Int) :
    let peak := (openLoop prev xs).foldl max 0
    (∃ i < xs.length, residualAt prev xs i = peak) ∧ ∀ i < xs.length, residualAt prev xs i ≤ peak := by
  have hne : openLoop prev xs ≠ [] := by simpa [openLoop_eq_map] using h
  have hmem (r : Nat) : r ∈ openLoop prev xs ↔ ∃ i < xs.length, residualAt prev xs i = r := by simp [openLoop_eq_map]
  rw [List.foldl_max_eq_max hne, Nat.zero_max]
  exact ⟨(hmem _).1 (List.max_mem hne), fun i hi => List.le_max_of_mem ((hmem _).2 ⟨i, hi, rfl⟩)⟩

theorem residualAt_block (prev : Int) (xs : List Int) (start : Nat) {i : Nat} (hi : i < 40) :
    residualAt ((prev :: xs).getD start 0) ((xs.drop start).take 40) i = residualAt prev xs (start + i) := by
  have hblock {j : Nat} (hj : j < 40) : ((xs.drop start).take 40).getD j 0 = xs.getD (start + j) 0 := by
    simp [hj]
  unfold residualAt
  rw [hblock hi]
  cases i with
  | zero => rfl
  | succ j => rw [List.getD_cons_succ, hblock (by omega), ← Nat.add_assoc, List.getD_cons_succ]

/-! ### Unrolling the sub-blocks (R23) -/

/-- Behind `a :: xs`, the rest `ys` follows the last value so far. -/
theorem getLastD_cons_eq_drop {α : Type} (a : α) (xs ys : List α) :
    xs.getLastD a :: ys = (a :: (xs ++ ys)).drop xs.length := by
  induction xs generalizing a with
  | nil => rfl
  | cons x xs ih => rw [List.getLastD_cons, ih]; rfl

theorem getLastD_take_cons_drop {α : Type} {n : Nat} {xs : List α} (h : n ≤ xs.length) (a : α) :
    (xs.take n).getLastD a :: xs.drop n = (a :: xs).drop n := by
  rw [getLastD_cons_eq_drop, List.take_append_drop, List.length_take, min_eq_left h]

theorem getD_drop (xs : List Int) (n i : Nat) : (xs.drop n).getD i 0 = xs.getD (n + i) 0 := by simp

theorem length_encodeBlocks_steps (l n : Nat) (recon prev : Int) (xs : List Int) :
    (encodeBlocks l n recon prev xs).steps.length = n := by
  induction n generalizing recon prev xs with
  | zero => rfl
  | succ n ih => exact congrArg Nat.succ (ih ..)

/-- R24: each step index is the choice for its own 40 inputs and the input before them. -/
theorem encodeBlocks_steps_getD {l n b : Nat} {xs : List Int} (hxs : 40 * n ≤ xs.length) (hb : b < n) (recon prev : Int) :
    (encodeBlocks l n recon prev xs).steps.getD b 0 =
      stepIndex l ((prev :: xs).getD (40 * b) 0) ((xs.drop (40 * b)).take 40) := by
  induction n generalizing recon prev xs b with
  | zero => omega
  | succ n ih =>
    cases b with
    | zero => rfl
    | succ b =>
      rw [encodeBlocks, List.getD_cons_succ, ih (by rw [List.length_drop]; omega) (by omega),
        getLastD_take_cons_drop (by omega), getD_drop, List.drop_drop, Nat.mul_succ, Nat.add_comm]

theorem encodeBlocks_steps_getD_le {l n b : Nat} {xs : List Int} (hxs : 40 * n ≤ xs.length) (hb : b < n)
    (recon prev : Int) : (encodeBlocks l n recon prev xs).steps.getD b 0 ≤ 15 := by
  rw [encodeBlocks_steps_getD hxs hb]
  exact stepIndex_le ..

/-- One sample `x` with the reconstruction before it is coded as `k` and reconstructed as `r` (R25). -/
structure SampleCoded (l delta : Nat) (before x k r : Int) : Prop where
  code : k = quantise l delta before x
  recon : r = reconstruct delta before k

@[simp] theorem length_quantiseAll (l delta : Nat) (recon : Int) (xs : List Int) :
    (quantiseAll l delta recon xs).length = xs.length := by
  induction xs generalizing recon with
  | nil => rfl
  | cons x xs ih => exact congrArg Nat.succ (ih _)

theorem quantiseAll_sampleCoded {l delta i : Nat} {xs : List Int} (hi : i < xs.length) (recon : Int) :
    let out := quantiseAll l delta recon xs
    SampleCoded l delta ((recon :: out.map Prod.snd).getD i 0) (xs.getD i 0) ((out.map Prod.fst).getD i 0)
      ((out.map Prod.snd).getD i 0) := by
  induction xs generalizing recon i with
  | nil => exact absurd hi (Nat.not_lt_zero i)
  | cons x xs ih =>
    cases i with
    | zero => exact ⟨rfl, rfl⟩
    | succ i => exact ih (Nat.lt_of_succ_lt_succ hi) _

theorem length_encodeBlocks_codes_recons {n : Nat} {xs : List Int} (hxs : 40 * n ≤ xs.length) (l : Nat)
    (recon prev : Int) :
    let c := encodeBlocks l n recon prev xs
    c.codes.length = 40 * n ∧ c.recons.length = 40 * n := by
  induction n generalizing recon prev xs with
  | zero => exact ⟨rfl, rfl⟩
  | succ n ih =>
    have hrest : 40 * n ≤ (xs.drop 40).length := by rw [List.length_drop]; omega
    simp only [encodeBlocks, List.length_append, List.length_map, length_quantiseAll, List.length_take, ih hrest]
    omega

/-- R25: each sample is coded with the step of its sub-block from the reconstruction before it. -/
theorem encodeBlocks_sampleCoded {l n i : Nat} {xs : List Int} (hxs : 40 * n ≤ xs.length) (hi : i < 40 * n)
    (recon prev : Int) :
    let c := encodeBlocks l n recon prev xs
    SampleCoded l (stepSize (c.steps.getD (i / 40) 0)) ((recon :: c.recons).getD i 0) (xs.getD i 0) (c.codes.getD i 0)
      (c.recons.getD i 0) := by
  induction n generalizing recon prev xs i with
  | zero => omega
  | succ n ih =>
    have hblock : (xs.take 40).length = 40 := by rw [List.length_take]; omega
    have hrest : 40 * n ≤ (xs.drop 40).length := by rw [List.length_drop]; omega
    simp only [encodeBlocks]
    generalize hq : stepIndex l prev (xs.take 40) = q
    generalize hout : quantiseAll l (stepSize q) recon (xs.take 40) = out
    have hlength : out.length = 40 := by rw [← hout, length_quantiseAll, hblock]
    rcases Nat.lt_or_ge i 40 with hfirst | hlater
    · have h := quantiseAll_sampleCoded (l := l) (delta := stepSize q) (hblock.symm ▸ hfirst) recon
      have hx : (xs.take 40).getD i 0 = xs.getD i 0 := by simp [hfirst]
      simp only [hout, hx] at h
      have hcodes : i < (out.map Prod.fst).length := by rwa [List.length_map, hlength]
      have hrecons : i < (out.map Prod.snd).length := by rwa [List.length_map, hlength]
      rw [Nat.div_eq_of_lt hfirst, List.getD_cons_zero, ← List.cons_append,
        List.getD_append _ _ _ _ (Nat.lt_succ_of_lt hrecons), List.getD_append _ _ _ _ hcodes,
        List.getD_append _ _ _ _ hrecons]
      exact h
    · obtain ⟨j, rfl⟩ := Nat.exists_eq_add_of_le hlater
      have h := ih hrest (i := j) (by omega) ((out.map Prod.snd).getLastD recon) ((xs.take 40).getLastD prev)
      simp only [getLastD_cons_eq_drop, getD_drop, List.length_map, hlength] at h
      rw [Nat.add_div_left _ (by decide), List.getD_cons_succ, List.getD_append_right _ _ _ _ (by simp [hlength]),
        List.getD_append_right _ _ _ _ (by simp [hlength])]
      simpa [hlength] using h

/-! ### The frame -/

/-- The model's step table is R19's, whatever stands beyond its end. -/
theorem stepSize_eq_getD {q : Nat} (hq : q ≤ 15) :
    stepSize q = [16, 23, 32, 45, 64, 91, 128, 181, 256, 362, 512, 724, 1024, 1448, 2048, 2896].getD q 0 := by
  interval_cases q <;> rfl

theorem stepSize_cast_eq_getD {q : Nat} (hq : q ≤ 15) :
    (stepSize q : Int) = [16, 23, 32, 45, 64, 91, 128, 181, 256, 362, 512, 724, 1024, 1448, 2048, 2896].getD q 0 := by
  rw [stepSize_eq_getD hq]
  exact (List.getD_map _ 0 (Nat.cast : Nat → Int)).symm

theorem previous_eq_getD (first : Int) (xs : List Int) (i : Nat) :
    (if i = 0 then first else xs.getD (i - 1) 0) = (first :: xs).getD i 0 := by
  cases i <;> rfl

theorem linear_getD {xs : List Int} (h : ∀ x ∈ xs, Linear x) (i : Nat) : Linear (xs.getD i 0) := by
  rcases Nat.lt_or_ge i xs.length with hi | hi
  · rw [List.getD_eq_getElem _ _ hi]
    exact h _ (List.getElem_mem hi)
  · rw [List.getD_eq_default _ _ hi]
    decide

theorem residualAt_le {prev : Int} {xs : List Int} (hprev : Linear prev) (hxs : ∀ x ∈ xs, Linear x) (i : Nat) :
    residualAt prev xs i ≤ 61439 := by
  have := residual_range (linear_getD hxs i) (linear_getD (List.forall_mem_cons.2 ⟨hprev, hxs⟩) i)
  unfold residualAt
  omega

/-- R25 step 4 keeps the predictor memory in range before every sample. -/
theorem encodeBlocks_recons_linear {l n i : Nat} {recon prev : Int} {xs : List Int} (hxs : 40 * n ≤ xs.length)
    (hi : i < 40 * n) (hrecon : Linear recon) : Linear ((recon :: (encodeBlocks l n recon prev xs).recons).getD i 0) := by
  cases i with
  | zero => exact hrecon
  | succ i =>
    rw [List.getD_cons_succ, (encodeBlocks_sampleCoded hxs (Nat.lt_of_succ_lt hi) recon prev).recon]
    exact reconstruct_linear ..

/-- Settles O43: the encoder's step index of a sub-block is the model's one choice for its 40 inputs, whose peak is one of
their residuals. -/
theorem stepIndexChoice : Obligations.StepIndexChoice := by
  intro mode recon xPrev xs hlength hxPrev hxs steps size l
  have hl : l = mode.levels := by cases mode <;> rfl
  refine ⟨length_encodeBlocks_steps .., fun b hb => ?_⟩
  intro before residual q
  have hresidual (i : Nat) : residual i = residualAt xPrev xs i := by
    simp only [residual, before, previous_eq_getD]
    rfl
  have hq : q = stepIndex l ((xPrev :: xs).getD (40 * b) 0) ((xs.drop (40 * b)).take 40) := by
    rw [hl]
    exact encodeBlocks_steps_getD (by omega) hb recon xPrev
  have hblock : ((xs.drop (40 * b)).take 40).length = 40 := by
    rw [List.length_take, List.length_drop]
    omega
  obtain ⟨⟨i, hi, hpeak⟩, hbound⟩ :=
    openLoop_peak (List.ne_nil_of_length_eq_add_one hblock) ((xPrev :: xs).getD (40 * b) 0)
  obtain ⟨hle, hreach, hbelow⟩ := chooseStep_spec l (residualAt xPrev xs (40 * b + i))
  rw [hblock] at hi hbound
  rw [stepIndex, ← hpeak, residualAt_block _ _ _ hi] at hq
  rw [← hq] at hle hreach hbelow
  refine ⟨residualAt xPrev xs (40 * b + i), residualAt_le hxPrev hxs _, ⟨i, hi, hresidual _⟩, fun j hj => ?_, hle, ?_,
    fun p hp => ?_⟩
  · have := hbound j hj
    rwa [← hpeak, residualAt_block _ _ _ hi, residualAt_block _ _ _ hj, ← hresidual] at this
  · rwa [stepSize_eq_getD hle] at hreach
  · have := hbelow p hp
    rwa [stepSize_eq_getD (by omega)] at this

/-- Settles O44: each sample is coded from the reconstruction before it, which is linear, with the step of its sub-block. -/
theorem sampleQuantised : Obligations.SampleQuantised := by
  intro mode recon xPrev xs hlength hrecon hxs c
  obtain ⟨hcodes, hrecons⟩ := length_encodeBlocks_codes_recons (n := 4) (by omega) mode.levels recon xPrev (xs := xs)
  refine ⟨hcodes, hrecons, fun i hi => ?_⟩
  intro before delta p e k l
  have hl : l = mode.levels := by cases mode <;> rfl
  have hlevels : 0 < mode.levels := by cases mode <;> decide
  have hq : c.steps.getD (i / 40) 0 ≤ 15 := encodeBlocks_steps_getD_le (by omega) (by omega) recon xPrev
  have hdelta : delta = stepSize (c.steps.getD (i / 40) 0) := (stepSize_cast_eq_getD hq).symm
  have hbefore : before = (recon :: c.recons).getD i 0 := previous_eq_getD ..
  have hlinear : Linear before := hbefore ▸ encodeBlocks_recons_linear (by omega) hi hrecon
  obtain ⟨hcode, hreconstruct⟩ : SampleCoded mode.levels (stepSize (c.steps.getD (i / 40) 0)) before (xs.getD i 0) k
      (c.recons.getD i 0) := hbefore ▸ encodeBlocks_sampleCoded (by omega) hi recon xPrev
  obtain ⟨hlow, hhigh⟩ := residual_range (linear_getD hxs i) hlinear
  obtain ⟨hle, hge, habove, hbelow⟩ := quantise_spec hlevels (stepSize_pos hq) before (xs.getD i 0)
  rw [← hcode, ← hl] at hle hge habove hbelow
  rw [← hdelta] at habove hbelow
  rw [reconstruct_eq, ← hdelta] at hreconstruct
  exact ⟨hlinear, hlow, hhigh, hge, hle, habove, hbelow, hreconstruct⟩

end Sys2Proof.Machine

/-! Activity detectors (R39 to R46). A step moves the level S and the floor N toward the code's own level and never past it, so
the bounds are kept; the talk state then changes at one threshold in each state. -/
namespace Sys2Proof.Machine

/-! ### The level S (R43) -/

section
variable (decay : Nat) {u level : Nat}

theorem stepLevel_of_lt (h : level < u) : stepLevel decay u level = level + (u - level) / 2 := if_pos h

theorem stepLevel_of_le (h : u ≤ level) : stepLevel decay u level = level - level / 2 ^ (8 + decay) := if_neg h.not_gt

/-- A rise ends at the code's level or below. -/
theorem stepLevel_le_of_lt (h : level < u) : stepLevel decay u level ≤ u := by
  rw [stepLevel_of_lt decay h]; omega

theorem stepLevel_le_max (u level : Nat) : stepLevel decay u level ≤ max level u := by
  rcases Nat.lt_or_ge level u with h | h
  · exact (stepLevel_le_of_lt decay h).trans (le_max_right _ _)
  · rw [stepLevel_of_le decay h]
    exact (Nat.sub_le _ _).trans (le_max_left _ _)

end

/-! ### The floor N (R44) -/

section
variable {u floor : Nat}

theorem stepFloor_of_lt (talk : Talk) (h : u < floor) : stepFloor talk u floor = floor - (floor - u) / 64 := if_pos h

theorem stepFloor_quiet_of_gt (h : floor < u) : stepFloor .quiet u floor = floor + (u - floor) / 32768 :=
  (if_neg h.not_gt).trans (if_pos h)

theorem stepFloor_talking_of_gt (h : floor < u) : stepFloor .talking u floor = floor :=
  (if_neg h.not_gt).trans (if_pos h)

@[simp] theorem stepFloor_self (talk : Talk) (u : Nat) : stepFloor talk u u = u :=
  (if_neg (lt_irrefl u)).trans (if_neg (lt_irrefl u))

/-- A fall of N ends at the code's level or above. -/
theorem le_stepFloor_of_lt (talk : Talk) (h : u < floor) : u ≤ stepFloor talk u floor := by
  rw [stepFloor_of_lt talk h]; omega

/-- A rise of N ends at the code's level or below, in either talk state. -/
theorem stepFloor_le_of_gt (talk : Talk) (h : floor < u) : stepFloor talk u floor ≤ u := by
  cases talk with
  | quiet => rw [stepFloor_quiet_of_gt h]; omega
  | talking => rw [stepFloor_talking_of_gt h]; exact h.le

theorem stepFloor_le_max (talk : Talk) (u floor : Nat) : stepFloor talk u floor ≤ max floor u := by
  rcases Nat.lt_trichotomy u floor with h | rfl | h
  · rw [stepFloor_of_lt talk h]
    exact (Nat.sub_le _ _).trans (le_max_left _ _)
  · exact (stepFloor_self talk u).trans_le (le_max_left _ _)
  · exact (stepFloor_le_of_gt talk h).trans (le_max_right _ _)

end

/-! ### The talk state (R45) -/

theorem stepTalk_quiet_eq_talking_iff (tOn h level floor : Nat) :
    stepTalk tOn h .quiet level floor = .talking ↔ floor + tOn * 65536 < level := by
  simp [stepTalk]

theorem stepTalk_talking_eq_quiet_iff (tOn h level floor : Nat) :
    stepTalk tOn h .talking level floor = .quiet ↔ level < floor + (tOn - min h tOn) * 65536 := by
  simp [stepTalk]

/-! ### The whole step -/

section
variable (cfg : Captured) (u : Nat) (d : Detector)

theorem Detector.step_level : (d.step cfg u).level = stepLevel cfg.decay (65536 * u) d.level := by
  rw [Nat.mul_comm]; rfl

theorem Detector.step_floor : (d.step cfg u).floor = stepFloor d.talk (65536 * u) d.floor := by
  rw [Nat.mul_comm]; rfl

theorem Detector.step_talk :
    (d.step cfg u).talk = stepTalk cfg.tOn cfg.h d.talk (d.step cfg u).level (d.step cfg u).floor := rfl

end

/-- R44: a step keeps the bounds of S and N. -/
theorem Detector.bounded_step {u : Nat} {d : Detector} (cfg : Captured) (hu : u ≤ 127) (hd : d.bounded) :
    (d.step cfg u).bounded := by
  obtain ⟨hlevel, hfloor⟩ := hd
  have hcode : 65536 * u ≤ detectorTop := Nat.mul_le_mul_left 65536 hu
  rw [Detector.bounded, Detector.step_level, Detector.step_floor]
  exact ⟨(stepLevel_le_max ..).trans (max_le hlevel hcode), (stepFloor_le_max ..).trans (max_le hfloor hcode)⟩

/-- Settles O47: the three parts of a step, each by its own cases, and the bounds from the two that do not pass the code's
level. -/
theorem detectorStep : Obligations.DetectorStep := by
  intro cfg d u hu hd t level
  have hlevel : t.level = stepLevel cfg.decay level d.level := Detector.step_level cfg u d
  have hfloor : t.floor = stepFloor d.talk level d.floor := Detector.step_floor cfg u d
  have htalk : t.talk = stepTalk cfg.tOn cfg.h d.talk t.level t.floor := Detector.step_talk cfg u d
  refine ⟨Detector.bounded_step cfg hu hd, ?rise, ?fall, ?floorFall, ?floorRise, ?floorHeld, ?floorEqual, ?quiet, ?talking⟩
  case rise =>
    intro h
    rw [hlevel]
    exact ⟨stepLevel_of_lt _ h, stepLevel_le_of_lt _ h⟩
  case fall =>
    intro h
    rw [hlevel]
    exact stepLevel_of_le _ h
  case floorFall =>
    intro h
    rw [hfloor]
    exact ⟨stepFloor_of_lt _ h, le_stepFloor_of_lt _ h⟩
  case floorRise =>
    intro h hquiet
    rw [hfloor, hquiet]
    exact ⟨stepFloor_quiet_of_gt h, stepFloor_le_of_gt _ h⟩
  case floorHeld =>
    intro h htalking
    rw [hfloor, htalking]
    exact stepFloor_talking_of_gt h
  case floorEqual =>
    intro h
    rw [hfloor, h]
    exact stepFloor_self _ _
  case quiet =>
    intro hquiet
    rw [htalk, hquiet]
    exact stepTalk_quiet_eq_talking_iff ..
  case talking =>
    intro htalking
    rw [htalk, htalking]
    exact stepTalk_talking_eq_quiet_iff ..

end Sys2Proof.Machine

/-! Egress boundaries (R70, R71). A swap and a slip each put one new record in place of the context's own. A notice request does
not look at the records, so the SLIP notice is the one the state before the boundary would place. -/
namespace Sys2Proof.Machine

/-! ### A record put in place of another -/

section
variable (s : State) {k j : Nat}

theorem State.ctx_modCtx_self (f : Context → Context) (h : k < s.ctxs.length) : (s.modCtx k f).ctx k = f (s.ctx k) :=
  s.ctx_setCtx_self _ h

theorem State.ctx_modCtx_of_ne (f : Context → Context) (h : j ≠ k) : (s.modCtx k f).ctx j = s.ctx j :=
  s.ctx_setCtx_of_ne _ h

theorem State.modCtx_modCtx (f g : Context → Context) (h : k < s.ctxs.length) :
    (s.modCtx k f).modCtx k g = s.modCtx k (g ∘ f) := by
  rw [State.modCtx, s.ctx_modCtx_self f h]
  simp [State.modCtx, State.setCtx]

@[simp] theorem State.ctx_requestJob (k : Nat) (kind : JobKind) (j : Nat) : (s.requestJob k kind).ctx j = s.ctx j := rfl

end

/-! ### A notice request and the records (R167) -/

section
variable (s : State) (kind : NoticeKind) (ctx detail : Nat) (l : List Nat)

@[simp] theorem State.ctx_placeNotice (j : Nat) : (s.placeNotice kind ctx detail l).ctx j = s.ctx j := by
  rw [State.placeNotice_frame]; rfl

@[simp] theorem State.placeNotice_engine : (s.placeNotice kind ctx detail l).engine = s.engine := by
  rw [State.placeNotice_frame]

theorem State.placeNotice_modCtx_ntw (k : Nat) (f : Context → Context) :
    ((s.modCtx k f).placeNotice kind ctx detail l).ntw = (s.placeNotice kind ctx detail l).ntw := by
  simp only [State.placeNotice, apply_ite State.ntw]; rfl

theorem State.placeNotice_modCtx_pwq (k : Nat) (f : Context → Context) :
    ((s.modCtx k f).placeNotice kind ctx detail l).pwq = (s.placeNotice kind ctx detail l).pwq := by
  simp only [State.placeNotice, apply_ite State.pwq]; rfl

end

/-! ### The two boundaries -/

/-- The record after a slip: the edge flag stands whether or not this slip set it (R71, R165). -/
def Context.slipped (c : Context) : Context :=
  { c with
    replay := min (c.replay + 1) 4
    counters := { c.counters with slips := satInc c.counters.slips }
    edges := { c.edges with slip := true } }

section
variable {s : State} {k : Nat}

theorem State.egressBoundary_of_ready (h : (s.ctx k).nReady = true) :
    s.egressBoundary k = (s.modCtx k Context.swap).requestJob k .decode := if_pos h

theorem State.egressBoundary_of_not_ready (h : (s.ctx k).nReady = false) : s.egressBoundary k = s.slip k :=
  if_neg (by simp [h])

/-- R165: with the edge flag set, a slip is a change of the record alone. -/
theorem State.slip_of_flagged (hk : k < s.ctxs.length) (h : (s.ctx k).edges.slip = true) :
    s.slip k = s.modCtx k Context.slipped := by
  have hslipped : (s.ctx k).slipped =
      { s.ctx k with
        replay := min ((s.ctx k).replay + 1) 4
        counters := { (s.ctx k).counters with slips := satInc (s.ctx k).counters.slips } } := by
    rw [Context.slipped, ← h]
  rw [State.slip, State.noticeSlip, s.ctx_modCtx_self _ hk, if_pos h, State.modCtx, State.modCtx, hslipped]

/-- R71: with the edge flag clear, a slip sets it and requests a notice. -/
theorem State.slip_of_unflagged (hk : k < s.ctxs.length) (h : (s.ctx k).edges.slip = false) :
    s.slip k =
      (s.modCtx k Context.slipped).placeNotice .slip k (min ((s.ctx k).replay + 1) 4) noCounters := by
  rw [State.slip, State.noticeSlip, s.ctx_modCtx_self _ hk, if_neg (by simp [h]), State.setEdges, s.modCtx_modCtx _ _ hk]
  rfl

/-- R71: what a slip does to the records and the engine, whatever the edge flag. -/
theorem State.slip_records (hk : k < s.ctxs.length) :
    (s.slip k).engine = s.engine ∧ ∀ j, (s.slip k).ctx j = (s.modCtx k Context.slipped).ctx j := by
  cases h : (s.ctx k).edges.slip with
  | true => simp [State.slip_of_flagged hk h]
  | false => simp [State.slip_of_unflagged hk h]

/-- R70, R71: a boundary leaves the other contexts and the running jobs. -/
theorem State.egressBoundary_frame (hk : k < s.ctxs.length) :
    (∀ j, j ≠ k → (s.egressBoundary k).ctx j = s.ctx j) ∧ (s.egressBoundary k).engine.running = s.engine.running := by
  cases hready : (s.ctx k).nReady with
  | true =>
    rw [State.egressBoundary_of_ready hready]
    exact ⟨fun j hj => s.ctx_modCtx_of_ne _ hj, rfl⟩
  | false =>
    obtain ⟨hengine, hctx⟩ := State.slip_records hk
    rw [State.egressBoundary_of_not_ready hready]
    exact ⟨fun j hj => (hctx j).trans (s.ctx_modCtx_of_ne _ hj), congrArg Engine.running hengine⟩

end

/-- Settles O12: the boundary is a swap or a slip by N-ready, and a slip places its notice by the edge flag. -/
theorem swapOrSlip : Obligations.SwapOrSlip := by
  intro s k hk c t
  obtain ⟨hothers, hrunning⟩ := State.egressBoundary_frame hk
  refine ⟨hothers, hrunning, fun hready => ?swap, fun hready => ?slip⟩
  case swap =>
    have ht : t = (s.modCtx k Context.swap).requestJob k .decode := State.egressBoundary_of_ready hready
    rw [ht]
    exact ⟨s.ctx_modCtx_self _ hk, rfl, rfl, rfl⟩
  case slip =>
    have ht : t = s.slip k := State.egressBoundary_of_not_ready hready
    obtain ⟨hengine, hctx⟩ := State.slip_records hk
    rw [ht, hengine]
    refine ⟨(hctx k).trans (s.ctx_modCtx_self _ hk), rfl, fun hflag => ?flagged, fun hflag => ?unflagged⟩
    case flagged =>
      rw [State.slip_of_flagged hk hflag]
      exact ⟨rfl, rfl⟩
    case unflagged =>
      rw [State.slip_of_unflagged hk hflag]
      exact ⟨State.placeNotice_modCtx_ntw .., State.placeNotice_modCtx_pwq ..⟩

end Sys2Proof.Machine

/-! Disposal of a fetched frame (R118 to R120). The type code names a row of R16's table, so a frame is malformed exactly when no
type fits it; a refusal is then one new record and, by the edge flag, one notice, as a slip is. -/
namespace Sys2Proof.Machine

/-! ### The form of a frame (R16, R118 step 3) -/

theorem FrameType.code_bounds (t : FrameType) : 1 ≤ t.code ∧ t.code ≤ 4 := by
  cases t with
  | sid | a2 | a3 | a4 => decide

theorem FrameType.exists_code {n : Nat} (h : 1 ≤ n) (h' : n ≤ 4) : ∃ t : FrameType, n = t.code :=
  match n, h, h' with
  | 1, _, _ => ⟨.sid, rfl⟩
  | 2, _, _ => ⟨.a2, rfl⟩
  | 3, _, _ => ⟨.a3, rfl⟩
  | 4, _, _ => ⟨.a4, rfl⟩

theorem FrameType.ofCode_eq_some_iff {n : Nat} {t : FrameType} : FrameType.ofCode n = some t ↔ n = t.code := by
  constructor
  · intro h
    unfold FrameType.ofCode at h
    split at h <;> cases h <;> rfl
  · rintro rfl
    cases t with
    | sid | a2 | a3 | a4 => rfl

theorem frameForm_eq_some_iff {length : Nat} {frame : List Byte} {t : FrameType} :
    frameForm length frame = some t ↔
      (3 ≤ length ∧ length ≤ 84) ∧ byte1Type (frame.getD 1 0) = t.code ∧ length = t.bytes := by
  rw [← FrameType.ofCode_eq_some_iff]
  unfold frameForm
  by_cases hlength : 3 ≤ length ∧ length ≤ 84
  · cases htype : FrameType.ofCode (byte1Type (frame.getD 1 0)) with
    | none => simp [hlength]
    | some u =>
      simp only [hlength, and_self, if_true, true_and, Option.some.injEq, Option.ite_none_right_eq_some]
      constructor
      · rintro ⟨hbytes, rfl⟩
        exact ⟨rfl, hbytes⟩
      · rintro ⟨rfl, hbytes⟩
        exact ⟨hbytes, rfl⟩
  · simp [hlength]

/-! ### The refusal of a frame (R118, R120) -/

/-- The record after a received frame is counted (R118). -/
def Context.receive (c : Context) : Context :=
  { c with counters := { c.counters with received := satInc c.counters.received } }

/-- The record after a received frame's refusal is counted as well (R120). -/
def Context.countRefusal (c : Context) : Context :=
  { c with counters := { c.receive.counters with rejected := satInc c.counters.rejected } }

@[simp] theorem Context.countRefusal_edges (c : Context) : c.countRefusal.edges = c.edges := rfl

/-- The record after a refusal: the edge flag stands whether or not this refusal set it (R120, R165). -/
def Context.refuse (c : Context) : Context := { c.countRefusal with edges := { c.edges with rejected := true } }

section
variable (s : State) (kind : NoticeKind) (ctx detail : Nat) (l : List Nat)

@[simp] theorem State.placeNotice_tags : (s.placeNotice kind ctx detail l).tags = s.tags := by
  rw [State.placeNotice_frame]

@[simp] theorem State.placeNotice_ffu : (s.placeNotice kind ctx detail l).ffu = s.ffu := by
  rw [State.placeNotice_frame]

end

section
variable {s : State} {k : Nat}

theorem State.reject_eq_noticeRejected (hk : k < s.ctxs.length) (detail : Nat) :
    (s.modCtx k Context.receive).reject k detail = (s.modCtx k Context.countRefusal).noticeRejected k detail := by
  rw [State.reject, State.count, s.modCtx_modCtx _ _ hk]
  rfl

/-- R165: with the edge flag set, a refusal is a change of the record alone. -/
theorem State.reject_of_flagged (hk : k < s.ctxs.length) (h : (s.ctx k).edges.rejected = true) (detail : Nat) :
    (s.modCtx k Context.receive).reject k detail = s.modCtx k Context.refuse := by
  have hrefuse : (s.ctx k).countRefusal = (s.ctx k).refuse := by rw [Context.refuse, ← h]; rfl
  rw [State.reject_eq_noticeRejected hk, State.noticeRejected, s.ctx_modCtx_self _ hk,
    Context.countRefusal_edges, if_pos h, State.modCtx, State.modCtx, hrefuse]

/-- R120: with the edge flag clear, a refusal sets it and requests a notice. -/
theorem State.reject_of_unflagged (hk : k < s.ctxs.length) (h : (s.ctx k).edges.rejected = false) (detail : Nat) :
    (s.modCtx k Context.receive).reject k detail =
      (s.modCtx k Context.refuse).placeNotice .rejected k detail noCounters := by
  rw [State.reject_eq_noticeRejected hk, State.noticeRejected, s.ctx_modCtx_self _ hk,
    Context.countRefusal_edges, if_neg (by simp [h]), State.setEdges, s.modCtx_modCtx _ _ hk]
  rfl

/-- R120: what a refusal does to the records and what it leaves alone, whatever the edge flag. -/
theorem State.reject_frame (hk : k < s.ctxs.length) (detail : Nat) :
    let t := (s.modCtx k Context.receive).reject k detail
    (∀ j, t.ctx j = (s.modCtx k Context.refuse).ctx j) ∧ t.pool = s.pool ∧ t.tags = s.tags ∧ t.ffu = s.ffu := by
  cases h : (s.ctx k).edges.rejected with
  | true => simp [State.reject_of_flagged hk h]
  | false => simp [State.reject_of_unflagged hk h, State.placeNotice_pool]

end

/-! ### The cases of a disposal (R118) -/

section
variable {s : State} {tag length k : Nat} {frame : List Byte} {t : FrameType}

theorem State.lookupTag_eq_none (h : ∀ p ∈ s.tags, p.1 ≠ tag) : s.lookupTag tag = none := by
  simpa [State.lookupTag] using h

theorem State.dispose_of_unknown (h : s.lookupTag tag = none) : s.dispose tag length frame = s := by
  rw [State.dispose, h]

theorem State.dispose_of_malformed (h : s.lookupTag tag = some k) (hform : frameForm length frame = none) :
    s.dispose tag length frame = (s.modCtx k Context.receive).reject k 1 := by
  simp only [State.dispose, h, hform]; rfl

theorem State.dispose_of_too_large (h : s.lookupTag tag = some k) (hform : frameForm length frame = some t)
    (hfree : s.pool.free < t.blocks) :
    s.dispose tag length frame = (s.modCtx k Context.receive).reject k 2 := by
  simp only [State.dispose, h, hform]
  exact if_pos hfree

theorem State.dispose_of_fits (h : s.lookupTag tag = some k) (hform : frameForm length frame = some t)
    (hfree : t.blocks ≤ s.pool.free) :
    s.dispose tag length frame = (s.modCtx k Context.receive).offer k (readEntry t frame) := by
  simp only [State.dispose, h, hform]
  exact if_neg hfree.not_gt

end

/-- Settles O30: the type code names its row of R16's table, so the three outcomes are those of `frameForm` and the pool. -/
theorem frameDisposal : Obligations.FrameDisposal := by
  intro s tag length frame code total need type malformed
  have hrow : ∀ t : FrameType, code = t.code → type = t ∧ total = t.bytes ∧ need = t.blocks := by
    intro t ht
    simp only [type, total, need, ht]
    cases t with
    | sid | a2 | a3 | a4 => exact ⟨rfl, rfl, rfl⟩
  have hnone : malformed → frameForm length frame = none := by
    intro hbad
    refine Option.eq_none_iff_forall_ne_some.mpr fun t hform => ?_
    obtain ⟨hlength, hcode, hbytes⟩ := frameForm_eq_some_iff.mp hform
    obtain ⟨-, htotal, -⟩ := hrow t hcode
    have hcode' : code = t.code := hcode
    have hbounds := t.code_bounds
    rcases hbad with h | h | h | h | h <;> omega
  have hsome : ¬ malformed → frameForm length frame = some type ∧ need = type.blocks := by
    intro hgood
    simp only [malformed, not_or, not_not] at hgood
    obtain ⟨hshort, hlong, hzero, hfive, hlength⟩ := hgood
    obtain ⟨t, ht⟩ := FrameType.exists_code (n := code) (by omega) (by omega)
    obtain ⟨htype, htotal, hneed⟩ := hrow t ht
    rw [htype]
    exact ⟨frameForm_eq_some_iff.mpr ⟨by omega, ht, hlength.trans htotal⟩, hneed⟩
  refine ⟨rfl, fun h => State.dispose_of_unknown (State.lookupTag_eq_none h), ?_⟩
  intro k htag hk c received refused
  have hrefused : ∀ detail, refused detail ((s.modCtx k Context.receive).reject k detail) := by
    intro detail
    obtain ⟨hctx, hpool, htags, hffu⟩ := State.reject_frame hk detail
    refine ⟨(hctx k).trans (s.ctx_modCtx_self _ hk), fun j hj => (hctx j).trans (s.ctx_modCtx_of_ne _ hj), hpool, htags, hffu,
      fun hflag => ?flagged, fun hflag => ?unflagged⟩
    case flagged =>
      rw [State.reject_of_flagged hk hflag]
      exact ⟨rfl, rfl⟩
    case unflagged =>
      rw [State.reject_of_unflagged hk hflag]
      exact ⟨State.placeNotice_modCtx_pwq .., State.placeNotice_modCtx_ntw ..⟩
  refine ⟨fun hbad => ?malformed, fun hgood hfree => ?tooLarge, fun hgood hfree => ?fits⟩
  case malformed =>
    rw [State.dispose_of_malformed htag (hnone hbad)]
    exact hrefused 1
  case tooLarge =>
    obtain ⟨hform, hneed⟩ := hsome hgood
    rw [State.dispose_of_too_large htag hform (hneed ▸ hfree)]
    exact hrefused 2
  case fits =>
    obtain ⟨hform, hneed⟩ := hsome hgood
    exact ⟨readEntry type frame, rfl, rfl, rfl, rfl, rfl, hneed.symm, State.dispose_of_fits htag hform (hneed ▸ hfree)⟩

end Sys2Proof.Machine

/-! The order of jobs (R133, R134). The four keys as numbers make R133's order a lexicographic one, which is linear because the
last two keys name the job; so the first of a list comes before every other. -/
namespace Sys2Proof.Machine

/-! ### The keys of a job (R133) -/

/-- Key 1, the priority class. -/
def Priority.rank : Priority → Nat
  | .high => 0
  | .normal => 1

/-- Key 3, the kind. -/
def JobKind.rank : JobKind → Nat
  | .decode => 0
  | .encode => 1

/-- Key 1 of a job, that of its context. -/
def State.classRank (s : State) (j : Job) : Nat := (s.ctx j.ctx).cfg.priority.rank

/-- R133's order, by the four keys in turn. -/
def State.Precedes (s : State) (a b : Job) : Prop :=
  s.classRank a < s.classRank b ∨ (s.classRank a = s.classRank b ∧ (s.slack a < s.slack b ∨ (s.slack a = s.slack b ∧
    (a.kind.rank < b.kind.rank ∨ (a.kind.rank = b.kind.rank ∧ a.ctx < b.ctx)))))

theorem Priority.rank_inj {p q : Priority} : p.rank = q.rank ↔ p = q := by
  cases p <;> cases q <;> decide

theorem Priority.rank_lt_iff {p q : Priority} (h : p ≠ q) : p.rank < q.rank ↔ p = .high := by
  revert h
  cases p <;> cases q <;> decide

theorem JobKind.rank_inj {a b : JobKind} : a.rank = b.rank ↔ a = b := by
  cases a <;> cases b <;> decide

theorem JobKind.rank_lt_iff {a b : JobKind} (h : a ≠ b) : a.rank < b.rank ↔ a = .decode := by
  revert h
  cases a <;> cases b <;> decide

/-- R63: a position lies in 0..159, so slack lies in 1..160. -/
theorem State.slack_bounds (s : State) (j : Job) : 1 ≤ s.slack j ∧ s.slack j ≤ 160 := by
  unfold State.slack
  cases j.kind with
  | encode => simp only [State.inPosition, sidePosition]; omega
  | decode => simp only [State.outPosition, sidePosition]; omega

section
variable {s : State} {a b c : Job}

theorem State.jobBefore_iff : s.jobBefore a b = true ↔ s.Precedes a b := by
  unfold State.jobBefore State.Precedes State.classRank
  split
  next hclass =>
    rw [decide_eq_true_iff, ← Priority.rank_lt_iff hclass]
    have := Priority.rank_inj.not.mpr hclass
    omega
  next hclass =>
    have := Priority.rank_inj.mpr (not_not.mp hclass)
    split
    next hslack => rw [decide_eq_true_iff]; omega
    next hslack =>
      split
      next hkind =>
        rw [decide_eq_true_iff, ← JobKind.rank_lt_iff hkind]
        have := JobKind.rank_inj.not.mpr hkind
        omega
      next hkind =>
        have := JobKind.rank_inj.mpr (not_not.mp hkind)
        rw [decide_eq_true_iff]; omega

theorem State.Precedes.trans (hab : s.Precedes a b) (hbc : s.Precedes b c) : s.Precedes a c := by
  unfold State.Precedes at *
  omega

/-- Jobs that agree in every key are one job. -/
theorem State.Precedes.of_not (hne : a ≠ b) (h : ¬ s.Precedes a b) : s.Precedes b a := by
  have hkey : a.kind.rank = b.kind.rank → a.ctx ≠ b.ctx := by
    intro hkind hctx
    cases a
    cases b
    exact hne (by simp_all [JobKind.rank_inj])
  unfold State.Precedes at *
  omega

/-! ### The first job of a list -/

@[simp] theorem State.firstJob_eq_none_iff {jobs : List Job} : s.firstJob jobs = none ↔ jobs = [] := by
  cases jobs with
  | nil => simp [State.firstJob]
  | cons j js =>
    simp only [State.firstJob, reduceCtorEq, iff_false]
    cases s.firstJob js with
    | none => simp
    | some b => dsimp only; split <;> simp

theorem State.firstJob_first {jobs : List Job} {j : Job} (h : s.firstJob jobs = some j) :
    j ∈ jobs ∧ ∀ i ∈ jobs, i ≠ j → s.Precedes j i := by
  induction jobs generalizing j with
  | nil => cases h
  | cons x xs ih =>
    rw [State.firstJob] at h
    cases hrest : s.firstJob xs with
    | none =>
      obtain rfl := State.firstJob_eq_none_iff.mp hrest
      cases h
      simp
    | some b =>
      obtain ⟨hmem, hfirst⟩ := ih hrest
      simp only [hrest] at h
      split at h <;> cases h
      next hbefore =>
        refine ⟨List.mem_cons_of_mem _ hmem, List.forall_mem_cons.mpr ⟨fun _ => ?_, hfirst⟩⟩
        exact State.jobBefore_iff.mp hbefore
      next hbefore =>
        refine ⟨List.mem_cons_self, List.forall_mem_cons.mpr ⟨fun h => absurd rfl h, fun i hi hne => ?_⟩⟩
        by_cases hxb : x = b
        · subst hxb
          exact hfirst i hi hne
        have hxb' : s.Precedes x b := .of_not (Ne.symm hxb) (State.jobBefore_iff.not.mp hbefore)
        by_cases hib : i = b
        · exact hib ▸ hxb'
        · exact hxb'.trans (hfirst i hi hib)

/-! ### The choice (R134) -/

theorem State.eligible_iff {j : Job} :
    s.eligible j = true ↔ j.kind = .decode ∨ ∀ r ∈ s.engine.running, r.job ≠ j := by
  obtain ⟨k, kind⟩ := j
  cases kind with
  | encode => simp [State.eligible, State.isRunning]
  | decode => simp [State.eligible]

theorem State.chosenJob_first {j : Job} (h : s.chosenJob = some j) :
    s.engine.running.length < 4 ∧ (j ∈ s.engine.jobs ∧ s.eligible j = true) ∧
      ∀ i ∈ s.engine.jobs, s.eligible i = true → i ≠ j → s.Precedes j i := by
  obtain ⟨hlane, hfirst⟩ := Option.ite_none_right_eq_some.mp h
  obtain ⟨hmem, hbefore⟩ := State.firstJob_first hfirst
  exact ⟨hlane, List.mem_filter.mp hmem, fun i hi hel => hbefore i (List.mem_filter.mpr ⟨hi, hel⟩)⟩

theorem State.chosenJob_eq_none (h : s.chosenJob = none) :
    4 ≤ s.engine.running.length ∨ ∀ j ∈ s.engine.jobs, ¬ s.eligible j = true := by
  by_cases hlane : s.engine.running.length < 4
  · have hfirst : s.firstJob (s.engine.jobs.filter s.eligible) = none := (if_pos hlane).symm.trans h
    exact .inr (List.filter_eq_nil_iff.mp (State.firstJob_eq_none_iff.mp hfirst))
  · exact .inl (not_lt.mp hlane)

/-! ### When the choice is due (R134, R152, R169) -/

theorem State.groupClosing_eq_false_iff {g : Group} :
    s.groupClosing g = false ↔ ∀ k slot ws, g = .egress k slot ws → (s.ctx k).state ≠ .closing := by
  cases g with
  | egress k slot ws => simp [State.groupClosing]
  | notice | status | indexReset => simp [State.groupClosing]

theorem State.dueGroup_eq_none_iff : s.dueGroup = none ↔ s.orderRests := by
  unfold State.dueGroup State.orderRests
  cases hw : s.pwq.waiting with
  | nil => simp
  | cons g rest =>
    have hhead : (∀ g' rest', g :: rest = g' :: rest' → 64 < s.pwq.entries.length + g'.size ∧
        ∀ k slot ws, g' = .egress k slot ws → (s.ctx k).state ≠ .closing) ↔
          64 < s.pwq.entries.length + g.size ∧ s.groupClosing g = false := by
      simp only [← State.groupClosing_eq_false_iff]
      exact ⟨fun h => h g rest rfl, by rintro h _ _ ⟨⟩; exact h⟩
    rw [hhead]
    cases hclosing : s.groupClosing g with
    | true => simp [hclosing]
    | false => simp [hclosing]

theorem State.quietDue_iff : s.quietDue = true ↔ s.timeoutMet := by
  change s.quietDue = true ↔ s.ntw.latch = false ∧ _ ∧ _ ∧ 0 < s.noticeCount
  simp [State.quietDue]

theorem State.dueStep_of_orderRests (hrests : s.orderRests) (htimeout : ¬ s.timeoutMet) :
    s.dueStep = s.chosenJob.map .start := by
  simp [State.dueStep, State.dueGroup_eq_none_iff.mpr hrests, State.quietDue_iff, htimeout]

end

/-- Settles O32: the choice is the first eligible job of the queue, and the one step due where nothing else is. -/
theorem jobOrder : Obligations.JobOrder := by
  intro s slack rank kind eligible
  refine ⟨s.slack_bounds, fun j h => ?chosen, fun h => ?none, fun hrests htimeout j => ?due⟩
  case chosen =>
    obtain ⟨hlane, ⟨hmem, helig⟩, hfirst⟩ := State.chosenJob_first h
    exact ⟨hlane, hmem, State.eligible_iff.mp helig, fun i hi hel => hfirst i hi (State.eligible_iff.mpr hel)⟩
  case none =>
    exact (State.chosenJob_eq_none h).imp_right fun hnone j hj => State.eligible_iff.not.mp (hnone j hj)
  case due =>
    simp [State.dueStep_of_orderRests hrests htimeout]

end Sys2Proof.Machine

/-! Job starts (R135, R139). A lane that takes a job changes the context's record and the engine alone; a decode start first
takes the playout queue's answer, which is one change of the same record and, where an entry was taken, a return of its blocks. -/
namespace Sys2Proof.Machine

/-! ### A lane takes a job (R131, R135, R139) -/

/-- The record once one more job of the context runs. -/
def Context.startJob (c : Context) : Context := { c with runningJobs := c.runningJobs + 1 }

/-- The engine once a lane has taken a job. -/
def Engine.take (e : Engine) (r : Running) : Engine :=
  { jobs := e.jobs.filter fun j => decide (j ≠ r.job), running := e.running ++ [r] }

theorem State.occupyLane_eq (s : State) (r : Running) :
    s.occupyLane r.job.ctx r =
      { s with ctxs := s.ctxs.set r.job.ctx (s.ctx r.job.ctx).startJob, engine := s.engine.take r } := by
  have hfilter : (s.engine.jobs.filter fun j => j != r.job) = s.engine.jobs.filter fun j => decide (j ≠ r.job) :=
    List.filter_congr fun j _ => (decide_not ..).symm
  rw [Engine.take, ← hfilter]
  rfl

/-- R135: an encode start changes the record and the engine alone. -/
theorem State.startEncode_eq (s : State) (k : Nat) :
    s.startEncode k =
      { s with ctxs := s.ctxs.set k (s.ctx k).startJob, engine := s.engine.take (.encode (s.encodeCopies k)) } :=
  s.occupyLane_eq (.encode (s.encodeCopies k))

section
variable {s : State} {k : Nat}

theorem exec_encodeJobStart_of_due (h : s.dueStep = some (.start { ctx := k, kind := .encode })) :
    exec .encodeJobStart s = .next (s.startEncode k) := by
  simp [exec, execEncodeJobStart, h]

theorem exec_decodeJobStart_of_due (h : s.dueStep = some (.start { ctx := k, kind := .decode })) :
    exec .decodeJobStart s = .next (s.startDecode k) := by
  simp [exec, execDecodeJobStart, h]

end

/-! ### The mode of an encode job (R16, R37) -/

theorem Mode.number_ofNumber {n : Nat} (h : 1 ≤ n) (h' : n ≤ 3) : (Mode.ofNumber n).number = n := by
  interval_cases n <;> rfl

section
variable {allowed : BitVec 3} {request : Nat}

theorem allows_iff {n : Nat} : allows allowed n = true ↔ 1 ≤ n ∧ n ≤ 3 ∧ allowed.getLsbD (n - 1) = true := by
  simp only [allows, Bool.and_eq_true, decide_eq_true_eq]
  refine and_congr_right fun _ => ⟨fun h => ⟨?_, h⟩, And.right⟩
  have := BitVec.lt_of_getLsbD h
  omega

theorem Mode.number_ofNumber_of_allows {n : Nat} (h : allows allowed n = true) : (Mode.ofNumber n).number = n := by
  obtain ⟨hlow, hhigh, -⟩ := allows_iff.mp h
  exact Mode.number_ofNumber hlow hhigh

theorem exists_allows (h : allowed ≠ 0) : ∃ n, allows allowed n = true := by
  by_contra hnone
  refine h (BitVec.eq_of_getLsbD_eq fun i hi => ?_)
  have := not_exists.mp hnone (i + 1)
  simpa [allows] using this

/-- In a list in the order `R`, the first hit comes before every other. -/
theorem find?_first {α : Type} {R : α → α → Prop} {p : α → Bool} {l : List α} {a : α} (hl : l.Pairwise R)
    (h : l.find? p = some a) : p a = true ∧ ∀ b ∈ l, p b = true → b = a ∨ R a b := by
  obtain ⟨ha, front, back, rfl, hfront⟩ := List.find?_eq_some_iff_append.mp h
  refine ⟨ha, fun b hb hp => ?_⟩
  rcases List.mem_append.mp hb with hb | hb
  · exact absurd hp (by simpa using hfront b hb)
  · exact (List.mem_cons.mp hb).imp_right (List.rel_of_pairwise_cons (List.pairwise_append.mp hl).2.1)

theorem adapt_of_allows (h : allows allowed request = true) : (adapt request allowed).number = request := by
  rw [adapt, if_pos h, Mode.number_ofNumber_of_allows h]

/-- R37: a request that is not allowed falls to the highest allowed mode below it. -/
theorem adapt_of_lower (h : ¬ allows allowed request = true) (hlower : ∃ n < request, allows allowed n = true) :
    let m := (adapt request allowed).number
    allows allowed m = true ∧ m < request ∧ ∀ n < request, allows allowed n = true → n ≤ m := by
  have hmem {n : Nat} (hn : allows allowed n = true) : n ∈ [3, 2, 1] := by
    obtain ⟨hlow, hhigh, -⟩ := allows_iff.mp hn
    simp only [List.mem_cons, List.not_mem_nil]
    omega
  rw [adapt, if_neg h]
  cases hfind : [3, 2, 1].find? fun m => decide (m < request) && allows allowed m with
  | none =>
    obtain ⟨n, hlt, hn⟩ := hlower
    exact absurd (List.find?_eq_none.mp hfind n (hmem hn)) (by simp [hlt, hn])
  | some m =>
    obtain ⟨hm, hfirst⟩ := find?_first (R := (· > ·)) (by decide) hfind
    simp only [Bool.and_eq_true, decide_eq_true_eq] at hm hfirst
    obtain ⟨hlt, hm⟩ := hm
    rw [Mode.number_ofNumber_of_allows hm]
    refine ⟨hm, hlt, fun n hn hallows => ?_⟩
    have := hfirst n (hmem hallows) ⟨hn, hallows⟩
    omega

/-- R37: with no allowed mode at or below the request, the lowest allowed one is taken. -/
theorem adapt_of_no_lower (h : ¬ allows allowed request = true) (hnone : ∀ n < request, ¬ allows allowed n = true)
    (hallowed : allowed ≠ 0) :
    let m := (adapt request allowed).number
    allows allowed m = true ∧ ∀ n, allows allowed n = true → m ≤ n := by
  have hmem {n : Nat} (hn : allows allowed n = true) : n ∈ [1, 2, 3] := by
    obtain ⟨hlow, hhigh, -⟩ := allows_iff.mp hn
    simp only [List.mem_cons, List.not_mem_nil]
    omega
  have hbelow : ([3, 2, 1].find? fun m => decide (m < request) && allows allowed m) = none :=
    List.find?_eq_none.mpr fun m _ => by simpa using hnone m
  rw [adapt, if_neg h, hbelow]
  cases hfind : [1, 2, 3].find? fun m => allows allowed m with
  | none =>
    obtain ⟨n, hn⟩ := exists_allows hallowed
    exact absurd hn (List.find?_eq_none.mp hfind n (hmem hn))
  | some m =>
    obtain ⟨hm, hfirst⟩ := find?_first (R := (· < ·)) (by decide) hfind
    simp only [Option.getD_some]
    rw [Mode.number_ofNumber_of_allows hm]
    refine ⟨hm, fun n hn => ?_⟩
    have := hfirst n (hmem hn) hn
    omega

end

/-- Settles O33: the lane takes the model's copies, and their mode is one of three by the allowed set. -/
theorem encodeJobStart : Obligations.EncodeJobStart := by
  refine ⟨fun s k _ hdue => ?start, fun request allowed _ _ hallowed => ?mode⟩
  case start =>
    rw [exec_encodeJobStart_of_due hdue, State.startEncode_eq]
    rfl
  case mode =>
    intro m inSet
    have hm : m = (adapt request allowed).number := rfl
    have hin (n : Nat) : inSet n ↔ allows allowed n = true := allows_iff.symm
    simp only [hm, hin]
    by_cases hrequest : allows allowed request = true
    · simp [adapt_of_allows hrequest, hrequest]
    · by_cases hlower : ∃ n < request, allows allowed n = true
      · obtain ⟨hmode, hlt, hhighest⟩ := adapt_of_lower hrequest hlower
        obtain ⟨n, hn, hallows⟩ := hlower
        exact ⟨hmode, fun h => absurd h hrequest, fun _ _ => ⟨hlt, hhighest⟩, fun _ hnone => absurd hallows (hnone n hn)⟩
      · have hnone : ∀ n < request, ¬ allows allowed n = true := fun n hn hallows => hlower ⟨n, hn, hallows⟩
        obtain ⟨hmode, hlowest⟩ := adapt_of_no_lower hrequest hnone hallowed
        exact ⟨hmode, fun h => absurd h hrequest, fun _ h => absurd h hlower, fun _ _ => hlowest⟩

/-! ### The playout queue's answer (R130, R139) -/

/-- The record once the queue has answered: the entry at distance 0 is gone and a set expected has advanced by 1. -/
def Context.takeFront (c : Context) : Context :=
  { c with
    expected := c.expected.map (· + 1)
    playout := match c.expected with
      | none => c.playout
      | some x => c.playout.filter fun e => decide (e.seq ≠ x) }

theorem Context.takeFront_of_none {c : Context} (h : c.expected = none) : c.takeFront = c := by
  unfold Context.takeFront
  cases c
  cases h
  rfl

section
variable {s : State} {k : Nat}

/-- R139: what an answer does, by the entry handed on. -/
theorem State.takePlayout_eq (s : State) (k : Nat) :
    s.takePlayout k =
      match s.playoutAnswer k with
      | none => s.modCtx k Context.takeFront
      | some e => (s.modCtx k Context.takeFront).returnBlocks e.blocks := by
  unfold State.takePlayout State.playoutAnswer
  cases hexpected : (s.ctx k).expected with
  | none => simp [State.modCtx, Context.takeFront_of_none hexpected, State.setCtx_ctx]
  | some x =>
    have hrecord : s.modCtx k Context.takeFront = s.modCtx k fun c =>
        { c with playout := c.playout.filter fun e => decide (e.seq ≠ x), expected := some (x + 1) } := by
      simp [State.modCtx, Context.takeFront, hexpected]
    simp only [Option.bind_some]
    cases entryAtZero (s.ctx k) x with
    | none => exact hrecord.symm
    | some e => exact congrArg (·.returnBlocks e.blocks) hrecord.symm

theorem State.takePlayout_of_none (h : s.playoutAnswer k = none) :
    s.takePlayout k = s.modCtx k Context.takeFront := by
  rw [State.takePlayout_eq, h]

theorem State.takePlayout_of_some {e : PlayEntry} (h : s.playoutAnswer k = some e) :
    s.takePlayout k = (s.modCtx k Context.takeFront).returnBlocks e.blocks := by
  rw [State.takePlayout_eq, h]

/-- The waiting groups, the notice writer and the pool are all that a return of blocks touches (R123, R124). -/
theorem State.returnBlocks_waiting_frame (s : State) (n : Nat) :
    s.returnBlocks n = { s with
      pool := (s.returnBlocks n).pool
      pwq := { s.pwq with waiting := (s.returnBlocks n).pwq.waiting }
      ntw := { s.ntw with waiting := (s.returnBlocks n).ntw.waiting, lost := (s.returnBlocks n).ntw.lost } } := by
  simp only [State.returnBlocks, State.examineLow, State.placeNotice]
  repeat' split
  all_goals rfl

theorem State.takePlayout_frame (s : State) (k : Nat) :
    s.takePlayout k = { s with
      ctxs := s.ctxs.set k (s.ctx k).takeFront
      pool := (s.takePlayout k).pool
      pwq := { s.pwq with waiting := (s.takePlayout k).pwq.waiting }
      ntw := { s.ntw with waiting := (s.takePlayout k).ntw.waiting, lost := (s.takePlayout k).ntw.lost } } := by
  cases hanswer : s.playoutAnswer k with
  | none => rw [State.takePlayout_of_none hanswer]; rfl
  | some e => rw [State.takePlayout_of_some hanswer, State.returnBlocks_waiting_frame]; rfl

/-- R124 does not look at the records. -/
theorem State.poolBecomes_modCtx {f : Context → Context} {t : State} {free : Nat} :
    (s.modCtx k f).poolBecomes t free ↔ s.poolBecomes t free := by
  simp only [State.poolBecomes, State.placeNotice_modCtx_ntw, State.placeNotice_modCtx_pwq, State.modCtx_pool,
    State.modCtx_ntw, State.modCtx_pwq]

/-- R124: the blocks of the entry handed on return to the pool. -/
theorem State.takePlayout_becomes {e : PlayEntry} (h : s.playoutAnswer k = some e) :
    s.poolBecomes (s.takePlayout k) (s.pool.free + e.blocks) := by
  rw [State.takePlayout_of_some h, ← State.poolBecomes_modCtx (k := k) (f := Context.takeFront)]
  exact State.returnBlocks_becomes _ _

/-- R139: beyond the answer, a decode start changes the record and the engine alone. -/
theorem State.startDecode_eq (hk : k < s.ctxs.length) :
    s.startDecode k = { s.takePlayout k with
      ctxs := s.ctxs.set k (s.ctx k).takeFront.startJob
      engine := s.engine.take (.decode (s.decodeCopies k)) } := by
  have hctxs : (s.takePlayout k).ctxs = s.ctxs.set k (s.ctx k).takeFront := by rw [State.takePlayout_frame]
  have hctx : (s.takePlayout k).ctx k = (s.ctx k).takeFront := by
    rw [State.ctx, hctxs]
    exact s.ctx_setCtx_self _ hk
  have hengine : (s.takePlayout k).engine = s.engine := by rw [State.takePlayout_frame]
  calc s.startDecode k
    _ = { s.takePlayout k with
          ctxs := (s.takePlayout k).ctxs.set k ((s.takePlayout k).ctx k).startJob
          engine := (s.takePlayout k).engine.take (.decode (s.decodeCopies k)) } :=
        (s.takePlayout k).occupyLane_eq (.decode (s.decodeCopies k))
    _ = _ := by rw [hctx, hctxs, hengine, List.set_set]

end

/-- Settles O34: by whether the queue hands on an entry; the record is that of an answer and of one more running job. -/
theorem decodeJobStart : Obligations.DecodeJobStart := by
  intro s k hk hdue c taken
  have htaken : taken = s.playoutAnswer k := by
    simp only [taken, c, State.playoutAnswer]
    cases (s.ctx k).expected <;> rfl
  have hstart := State.startDecode_eq hk
  rw [htaken]
  refine ⟨s.startDecode k, exec_decodeJobStart_of_due hdue, ?record, ?others, ?engine, ?kept, ?pool, ?frame⟩
  case record =>
    rw [hstart]
    exact s.ctx_setCtx_self _ hk
  case others =>
    intro j hj
    rw [hstart]
    exact s.ctx_setCtx_of_ne _ hj
  case engine => rw [hstart]; rfl
  case kept =>
    intro hnone
    rw [hstart, State.takePlayout_of_none hnone]
    exact ⟨rfl, rfl, rfl⟩
  case pool => exact fun e he => State.takePlayout_becomes he
  case frame => rw [hstart, State.takePlayout_frame]

end Sys2Proof.Machine

/-! The arbiter's choice (R149). R149's five steps are a chain in which each step is reached only where all before it fail, so
the choice is given step by step: whom a step serves where it is reached, and what is left of the chain where it fails. -/

namespace Sys2Proof.Machine

/-! ### What the steps look at (R149) -/

/-- R149: the PWQ holds 32 words or more, and 4 master grants or more came since its own last one (R148). -/
def State.queueLong (s : State) : Prop := 32 ≤ s.pwq.entries.length ∧ 4 ≤ s.mpa.drainCount

/-- R149: the FFU waits, and 8 master grants or more came since its own last one (R148). -/
def State.fetchStarved (s : State) : Prop := s.ffu.buffer ≠ none ∧ 8 ≤ s.mpa.fetchCount

/-- R149: a master access waits and is not held back by the status and START index reset groups. -/
def State.masterAdmitted (s : State) (master : Bool) : Prop :=
  master = true ∧ s.pwq.waiting.countP Group.isStatusOrIndex < 15

section

variable {s : State} {master : Bool}

theorem State.statusWaiting_eq_countP : s.statusWaiting = s.pwq.waiting.countP Group.isStatusOrIndex :=
  List.countP_eq_length_filter.symm

theorem State.fetchStarved_iff : s.fetchStarved ↔ s.ffu.buffer.isSome ∧ 8 ≤ s.mpa.fetchCount := by
  rw [State.fetchStarved, Option.isSome_iff_ne_none]

theorem State.masterAdmitted_iff : s.masterAdmitted master ↔ master ∧ s.statusWaiting < 15 := by
  rw [State.masterAdmitted, State.statusWaiting_eq_countP]

/-! ### The steps (R149) -/

/-- The choice where neither a count nor a master access decides it: the last two steps of R149. -/
def State.leisureChoice (s : State) : Option Claimant :=
  if s.pwq.entries ≠ [] then some .pwq else if s.ffu.buffer.isSome then some .ffu else none

theorem State.portChoice_of_long (hlong : s.queueLong) : s.portChoice master = some .pwq := if_pos hlong

theorem State.portChoice_of_starved (hlong : ¬ s.queueLong) (hstarved : s.fetchStarved) :
    s.portChoice master = some .ffu :=
  (if_neg hlong).trans (if_pos (State.fetchStarved_iff.mp hstarved))

/-- Where neither count decides, a master access that is admitted comes before the last two steps. -/
theorem State.portChoice_of_counts_low (hlong : ¬ s.queueLong) (hstarved : ¬ s.fetchStarved) :
    s.portChoice master = if master ∧ s.statusWaiting < 15 then some .master else s.leisureChoice :=
  (if_neg hlong).trans (if_neg (mt State.fetchStarved_iff.mpr hstarved))

theorem State.portChoice_of_admitted (hlong : ¬ s.queueLong) (hstarved : ¬ s.fetchStarved)
    (hadmitted : s.masterAdmitted master) : s.portChoice master = some .master :=
  (State.portChoice_of_counts_low hlong hstarved).trans (if_pos (State.masterAdmitted_iff.mp hadmitted))

theorem State.portChoice_of_not_admitted (hlong : ¬ s.queueLong) (hstarved : ¬ s.fetchStarved)
    (hadmitted : ¬ s.masterAdmitted master) : s.portChoice master = s.leisureChoice :=
  (State.portChoice_of_counts_low hlong hstarved).trans (if_neg (mt State.masterAdmitted_iff.mpr hadmitted))

theorem State.leisureChoice_of_entries (h : s.pwq.entries ≠ []) : s.leisureChoice = some .pwq := if_pos h

theorem State.leisureChoice_of_fetch (hempty : s.pwq.entries = []) (hbuffer : s.ffu.buffer ≠ none) :
    s.leisureChoice = some .ffu := by
  rw [State.leisureChoice, if_neg (not_not.mpr hempty), if_pos (Option.isSome_iff_ne_none.mpr hbuffer)]

theorem State.leisureChoice_of_idle (hempty : s.pwq.entries = []) (hbuffer : s.ffu.buffer = none) :
    s.leisureChoice = none := by
  simp [State.leisureChoice, hempty, hbuffer]

end

/-- Settles O27, one step of R149 after another. -/
theorem arbiterOrder : Obligations.ArbiterOrder := by
  intro s master long starved admitted
  refine ⟨?queueLong, ?fetchStarved, ?master, ?queue, ?fetch, ?nobody⟩
  case queueLong => exact State.portChoice_of_long
  case fetchStarved => exact State.portChoice_of_starved
  case master => exact State.portChoice_of_admitted
  case queue =>
    intro hlong hstarved hadmitted hentries
    exact (State.portChoice_of_not_admitted hlong hstarved hadmitted).trans (State.leisureChoice_of_entries hentries)
  case fetch =>
    intro hlong hstarved hadmitted hempty hbuffer
    exact (State.portChoice_of_not_admitted hlong hstarved hadmitted).trans (State.leisureChoice_of_fetch hempty hbuffer)
  case nobody =>
    intro hlong hstarved hadmitted hempty hbuffer
    exact (State.portChoice_of_not_admitted hlong hstarved hadmitted).trans (State.leisureChoice_of_idle hempty hbuffer)

end Sys2Proof.Machine

/-! The events of the part: every step is a run of a few kinds of change, each of which the laws can be held against once. Small
changes of a record, notices, and moves of pool blocks are grouped by what they keep. -/
namespace Sys2Proof.Machine

/-! ### Records -/

section
variable (s : State)

theorem State.modCtx_comp (k : Nat) (f g : Context → Context) : (s.modCtx k f).modCtx k g = s.modCtx k (g ∘ f) := by
  rcases Nat.lt_or_ge k s.ctxs.length with hk | hk
  · exact s.modCtx_modCtx f g hk
  · simp [State.modCtx, State.setCtx, List.set_eq_of_length_le hk]

theorem State.modCtx_eq_self {k : Nat} {f : Context → Context} (h : f (s.ctx k) = s.ctx k) : s.modCtx k f = s := by
  rw [State.modCtx, h, State.setCtx_ctx]

theorem State.lt_length_of_state_ne {k : Nat} (h : (s.ctx k).state ≠ .closed) : k < s.ctxs.length := by
  by_contra hk
  rw [s.ctx_of_length_le (Nat.le_of_not_lt hk)] at h
  exact h rfl

theorem State.lt_length_of_active {k : Nat} (h : (s.ctx k).state = .active) : k < s.ctxs.length :=
  s.lt_length_of_state_ne (by simp [h])

theorem State.ctx_setCtx (k j : Nat) (c : Context) :
    (s.setCtx k c).ctx j = if j = k ∧ k < s.ctxs.length then c else s.ctx j := by
  by_cases hj : j = k
  · subst hj
    by_cases hk : j < s.ctxs.length
    · simp [s.ctx_setCtx_self c hk, hk]
    · simp [State.setCtx, List.set_eq_of_length_le (Nat.le_of_not_lt hk), State.ctx, hk]
  · simp [s.ctx_setCtx_of_ne c hj, hj]

@[simp] theorem State.setCtx_length (k : Nat) (c : Context) : (s.setCtx k c).ctxs.length = s.ctxs.length := by
  simp [State.setCtx]

/-- What holds of every record, and of a new one in a record's place, holds of every record after. -/
theorem State.forall_setCtx {P : Context → Prop} {k : Nat} {d : Context} (h : ∀ c ∈ s.ctxs, P c)
    (hd : s.ctx k ∈ s.ctxs → P d) : ∀ c ∈ (s.setCtx k d).ctxs, P c := by
  rcases Nat.lt_or_ge k s.ctxs.length with hk | hk
  · intro c hc
    rcases List.mem_or_eq_of_mem_set hc with hc | rfl
    · exact h c hc
    · exact hd (by simp [State.ctx, hk])
  · simpa [State.setCtx, List.set_eq_of_length_le hk] using h

end

/-- A record change that a boundary, a tapped byte, a counter or an edge flag makes: the halves keep their sizes, and replay
level, ingress detector and counters stay in range. -/
structure Context.Touch (c d : Context) : Prop where
  frame : d = { c with
    half0 := d.half0, half1 := d.half1, fillingOne := d.fillingOne, seqCounter := d.seqCounter, replay := d.replay
    inDet := d.inDet, counters := d.counters, edges := d.edges }
  half0 : d.half0.codes.length = c.half0.codes.length
  half1 : d.half1.codes.length = c.half1.codes.length
  replay : c.replay ≤ 4 → d.replay ≤ 4
  inDet : c.inDet.bounded → d.inDet.bounded
  counters : (∀ n ∈ c.counters.list, n ≤ 65535) → ∀ n ∈ d.counters.list, n ≤ 65535

theorem satInc_le (n : Nat) : satInc n ≤ 65535 := Nat.min_le_right ..

theorem magnitudeIndex_le (law : Law) (c : Byte) : magnitudeIndex law c ≤ 127 := by
  simp only [magnitudeIndex, plainSegment, plainStep]
  omega

section
variable {c : Context}

theorem Context.touch_counters {n : Counters} (h : (∀ n ∈ c.counters.list, n ≤ 65535) → ∀ m ∈ n.list, m ≤ 65535) :
    c.Touch { c with counters := n } :=
  ⟨rfl, rfl, rfl, id, id, h⟩

theorem Context.touch_edges (e : Edges) : c.Touch { c with edges := e } := ⟨rfl, rfl, rfl, id, id, id⟩

theorem Context.touch_flipHalves : c.Touch c.flipHalves := by
  unfold Context.flipHalves
  split
  · exact ⟨rfl, rfl, rfl, id, id, id⟩
  · exact ⟨rfl, rfl, rfl, id, id, id⟩

theorem Context.touch_tap (i : Nat) (b : Byte) : c.Touch (c.tap i b) := by
  have hdet : c.inDet.bounded → (c.inDet.step c.cfg (magnitudeIndex c.cfg.law b)).bounded :=
    Detector.bounded_step _ (magnitudeIndex_le _ _)
  unfold Context.tap
  split
  · exact ⟨rfl, rfl, List.length_set, id, hdet, id⟩
  · exact ⟨rfl, List.length_set, rfl, id, hdet, id⟩

theorem Context.touch_slipped : c.Touch
    { c with replay := min (c.replay + 1) 4, counters := { c.counters with slips := satInc c.counters.slips } } := by
  refine ⟨rfl, rfl, rfl, fun _ => Nat.min_le_right .., id, fun h => ?_⟩
  simp only [Counters.list, List.forall_mem_cons] at h ⊢
  simp [h, satInc_le]

end

/-! ### Notices and pool blocks -/

/-- A notice group, of as many words as R151 gives it at most. -/
def Group.smallNotice (g : Group) : Prop := ∃ ws, g = .notice ws ∧ ws.length ≤ 26

/-- Notices are requested and pool blocks move, the LOW flag being examined; nothing else changes. -/
structure Refill (s u : State) : Prop where
  frame : u = { s with
    pool := u.pool
    ntw := { s.ntw with waiting := u.ntw.waiting, lost := u.ntw.lost }
    pwq := { s.pwq with waiting := u.pwq.waiting } }
  groups : ∃ gs, u.pwq.waiting = s.pwq.waiting ++ gs ∧ ∀ g ∈ gs, g.smallNotice
  low : s.lowLaw → u.lowLaw

theorem Refill.refl (s : State) : Refill s s := ⟨rfl, ⟨[], by simp⟩, id⟩

theorem Refill.trans {s t u : State} (h : Refill s t) (h' : Refill t u) : Refill s u := by
  obtain ⟨gs, hgs, hsmall⟩ := h.groups
  obtain ⟨gs', hgs', hsmall'⟩ := h'.groups
  refine ⟨?frame, ⟨gs ++ gs', ?groups, ?small⟩, h'.low ∘ h.low⟩
  case frame =>
    have ht := h.frame
    have hu := h'.frame
    rw [ht] at hu
    exact hu
  case groups => rw [hgs', hgs, List.append_assoc]
  case small =>
    intro g hg
    rcases List.mem_append.mp hg with hg | hg
    · exact hsmall g hg
    · exact hsmall' g hg

theorem length_bytesToWords (bytes : List Byte) : (bytesToWords bytes).length = (bytes.length + 3) / 4 := by
  induction bytes using bytesToWords.induct with
  | case1 | case2 | case3 | case4 => simp [bytesToWords]
  | case5 a b c d rest ih => simp [bytesToWords, ih]; omega

theorem length_indexed (i : Nat) (ls : List Lanes) : (indexed i ls).length = ls.length := by
  induction ls generalizing i with
  | nil => rfl
  | cons l ls ih => simp [indexed, ih]

theorem length_groupOrder (bytes : List Byte) : (groupOrder bytes).length = (bytes.length + 3) / 4 := by
  rw [← length_bytesToWords, ← length_indexed 0, groupOrder]
  cases indexed 0 (bytesToWords bytes) <;> simp

theorem length_noticeBytes {counters : List Nat} (h : counters.length = 9) (kind : NoticeKind) (lost : Bool) (ctx : Nat)
    (frameNo : BitVec 16) (pos detail : Nat) : (noticeBytes kind lost ctx frameNo pos counters detail).length = 32 := by
  have hflat : (counters.flatMap fun n => [byte0 n, byte1 n]).length = 18 := by
    rw [List.length_flatMap]
    simp [h]
  simp only [noticeBytes, List.length_append, hflat]
  rfl

theorem State.placeNotice_refill (s : State) (kind : NoticeKind) (ctx detail : Nat) {l : List Nat} (hl : l.length = 9) :
    Refill s (s.placeNotice kind ctx detail l) := by
  unfold State.placeNotice
  split
  · exact ⟨rfl, ⟨[], by simp⟩, id⟩
  · refine ⟨rfl, ⟨_, rfl, ?_⟩, id⟩
    simp only [List.mem_singleton, forall_eq]
    refine ⟨_, rfl, ?_⟩
    simp [length_groupOrder, length_noticeBytes hl]

theorem State.examineLow_cases (s : State) :
    s.examineLow = s ∨ ∃ p kind, s.examineLow = { s with pool := p }.placeNotice kind partWide s.pool.free noCounters := by
  unfold State.examineLow
  split
  · exact .inr ⟨_, _, rfl⟩
  · split
    · exact .inr ⟨_, _, rfl⟩
    · exact .inl rfl

/-- A change of the free count that is followed by an examination of LOW. -/
theorem State.examineLow_refill (s : State) (free : Nat) :
    Refill s ({ s with pool := { s.pool with free := free } }).examineLow := by
  have hlow := ({ s with pool := { s.pool with free := free } } : State).examineLow_lowLaw
  obtain h | ⟨p, kind, h⟩ := ({ s with pool := { s.pool with free := free } } : State).examineLow_cases
  · rw [h] at hlow ⊢
    exact ⟨rfl, ⟨[], by simp⟩, fun _ => hlow⟩
  · rw [h] at hlow ⊢
    have hplaced := ({ s with pool := p } : State).placeNotice_refill kind partWide free (l := noCounters) rfl
    exact ⟨hplaced.frame, hplaced.groups, fun _ => hlow⟩

theorem State.returnBlocks_refill (s : State) (n : Nat) : Refill s (s.returnBlocks n) := s.examineLow_refill _

theorem State.takeBlocks_refill (s : State) (n : Nat) : Refill s (s.takeBlocks n) := s.examineLow_refill _

theorem State.returnBlocks_free (s : State) (n : Nat) : (s.returnBlocks n).pool.free = s.pool.free + n :=
  (s.returnBlocks_becomes n).1

theorem State.takeBlocks_free (s : State) (n : Nat) : (s.takeBlocks n).pool.free = s.pool.free - n :=
  (s.takeBlocks_becomes n).1

end Sys2Proof.Machine

/-! The fetch queue's law (R112, R121), as a law of the fetch unit alone, and the moves of the unit that keep it. -/
namespace Sys2Proof.Machine

/-- R112 and R121, of the fetch unit. -/
def Ffu.lawful (u : Ffu) : Prop :=
  u.queue.length ≤ 16 ∧ (u.queue.map (·.slot)).Nodup ∧
    (match u.buffer with
      | none => u.queue = []
      | some f =>
        if f.stale then ∀ e ∈ u.queue, e.state = .waiting
        else u.queue.head? = some { slot := f.slot, state := .reading } ∧ ∀ e ∈ u.queue.tail, e.state = .waiting) ∧
    (u.queue = [] → u.overrun = false)

theorem State.fetchLaw_iff (s : State) : s.fetchLaw ↔ s.ffu.lawful := Iff.rfl

/-- The two shapes of a lawful queue behind a busy buffer: all WAITING, or the served entry first. -/
theorem Ffu.lawful_of_buffer {u : Ffu} {f : Fetch} (h : u.lawful) (hf : u.buffer = some f) :
    (f.stale = true ∧ ∀ e ∈ u.queue, e.state = .waiting) ∨
      f.stale = false ∧ ∃ rest, u.queue = { slot := f.slot, state := .reading } :: rest ∧ ∀ e ∈ rest, e.state = .waiting := by
  obtain ⟨-, -, hbuffer, -⟩ := h
  rw [hf] at hbuffer
  cases hstale : f.stale with
  | true => simp only [hstale, if_true] at hbuffer; exact .inl ⟨rfl, hbuffer⟩
  | false =>
    simp only [hstale, Bool.false_eq_true, if_false] at hbuffer
    obtain ⟨hhead, htail⟩ := hbuffer
    obtain ⟨rest, hqueue⟩ := List.head?_eq_some_iff.mp hhead
    refine .inr ⟨rfl, rest, hqueue, ?_⟩
    simpa [hqueue] using htail

theorem Ffu.lawful_waiting {u : Ffu} {f : Fetch} (hlen : u.queue.length ≤ 16) (hnodup : (u.queue.map (·.slot)).Nodup)
    (hf : u.buffer = some f) (hstale : f.stale = true) (hwait : ∀ e ∈ u.queue, e.state = .waiting)
    (hover : u.queue = [] → u.overrun = false) : u.lawful := by
  refine ⟨hlen, hnodup, ?_, hover⟩
  rw [hf]
  simpa [hstale] using hwait

theorem Ffu.lawful_reading {u : Ffu} {f : Fetch} {rest : List FetchEntry} (hlen : u.queue.length ≤ 16)
    (hnodup : (u.queue.map (·.slot)).Nodup) (hf : u.buffer = some f) (hstale : f.stale = false)
    (hqueue : u.queue = { slot := f.slot, state := .reading } :: rest) (hwait : ∀ e ∈ rest, e.state = .waiting) :
    u.lawful := by
  refine ⟨hlen, hnodup, ?_, by simp [hqueue]⟩
  rw [hf]
  simpa [hstale, hqueue] using hwait

/-- R112: an idle buffer takes the oldest of a queue of WAITING entries. -/
theorem Ffu.promote_lawful {u : Ffu} (hlen : u.queue.length ≤ 16) (hnodup : (u.queue.map (·.slot)).Nodup)
    (hf : u.buffer = none) (hwait : ∀ e ∈ u.queue, e.state = .waiting) (hover : u.queue = [] → u.overrun = false) :
    u.promote.lawful := by
  obtain ⟨queue, buffer, overrun⟩ := u
  cases hf
  cases queue with
  | nil => exact ⟨hlen, hnodup, rfl, hover⟩
  | cons e rest => exact Ffu.lawful_reading hlen hnodup rfl rfl rfl (List.forall_mem_cons.mp hwait).2

theorem Ffu.clearIfEmpty_lawful {u : Ffu} {f : Fetch} (hlen : u.queue.length ≤ 16) (hnodup : (u.queue.map (·.slot)).Nodup)
    (hf : u.buffer = some f) (hstale : f.stale = true) (hwait : ∀ e ∈ u.queue, e.state = .waiting) :
    u.clearIfEmpty.lawful := by
  unfold Ffu.clearIfEmpty
  split
  · exact Ffu.lawful_waiting hlen hnodup hf hstale hwait fun _ => rfl
  · rename_i hne
    exact Ffu.lawful_waiting hlen hnodup hf hstale hwait fun h => absurd (by simpa using h) hne

theorem Ffu.finish_lawful {u : Ffu} {f : Fetch} (h : u.lawful) (hf : u.buffer = some f) : (u.finish f.stale).lawful := by
  obtain ⟨hlen, hnodup, -, -⟩ := id h
  have key : ∀ queue : List FetchEntry, queue.Sublist u.queue → (∀ e ∈ queue, e.state = .waiting) →
      (Ffu.promote (Ffu.clearIfEmpty { u with queue := queue, buffer := none })).lawful := by
    intro queue hsub hwait
    unfold Ffu.clearIfEmpty
    split
    · exact Ffu.promote_lawful (hsub.length_le.trans hlen) (hnodup.sublist (hsub.map _)) rfl hwait fun _ => rfl
    · rename_i hne
      exact Ffu.promote_lawful (hsub.length_le.trans hlen) (hnodup.sublist (hsub.map _)) rfl hwait fun h =>
        absurd (by simpa using h) hne
  obtain ⟨hstale, hwait⟩ | ⟨hstale, rest, hqueue, hwait⟩ := Ffu.lawful_of_buffer h hf
  · simpa [Ffu.finish, hstale] using key u.queue (List.Sublist.refl _) hwait
  · simpa [Ffu.finish, hstale, hqueue] using key rest (by simp [hqueue]) hwait

theorem Ffu.phase_lawful {u : Ffu} {f : Fetch} (h : u.lawful) (hf : u.buffer = some f) (phase : FetchPhase) :
    Ffu.lawful { u with buffer := some { f with phase := phase } } := by
  obtain ⟨hlen, hnodup, hbuffer, hover⟩ := h
  rw [hf] at hbuffer
  exact ⟨hlen, hnodup, hbuffer, hover⟩

/-! ### Header-word events (R113, R114) -/

theorem Ffu.hasWaiting_iff {u : Ffu} {slot : Nat} : u.hasWaiting slot = true ↔ FetchEntry.mk slot .waiting ∈ u.queue := by
  simp [Ffu.hasWaiting]

theorem Ffu.hasReading_iff {u : Ffu} {slot : Nat} : u.hasReading slot = true ↔ FetchEntry.mk slot .reading ∈ u.queue := by
  simp [Ffu.hasReading]

/-- A slot with no entry in either state is no slot of the queue. -/
theorem Ffu.slot_fresh {u : Ffu} {slot : Nat} (hw : FetchEntry.mk slot .waiting ∉ u.queue)
    (hr : FetchEntry.mk slot .reading ∉ u.queue) : slot ∉ u.queue.map (·.slot) := by
  intro hmem
  obtain ⟨⟨n, state⟩, he, rfl⟩ := List.mem_map.mp hmem
  cases state with
  | waiting => exact hw he
  | reading => exact hr he

/-- The READING entry of a lawful queue is its first, and its fetch is not STALE. -/
theorem Ffu.lawful_of_reading {u : Ffu} {slot : Nat} (h : u.lawful) (hr : FetchEntry.mk slot .reading ∈ u.queue) :
    ∃ f rest, u.buffer = some f ∧ f.stale = false ∧ f.slot = slot ∧ u.queue = FetchEntry.mk slot .reading :: rest ∧
      ∀ e ∈ rest, e.state = .waiting := by
  cases hf : u.buffer with
  | none =>
    have hempty : u.queue = [] := by have hbuffer := h.2.2.1; rwa [hf] at hbuffer
    simp [hempty] at hr
  | some f =>
    obtain ⟨-, hwait⟩ | ⟨hstale, rest, hqueue, hwait⟩ := Ffu.lawful_of_buffer h hf
    · exact absurd (hwait _ hr) (by simp)
    · rw [hqueue] at hr
      rcases List.mem_cons.mp hr with hhead | htail
      · cases hhead
        exact ⟨f, rest, rfl, hstale, rfl, hqueue, hwait⟩
      · exact absurd (hwait _ htail) (by simp)

/-- R113, R114: the READING entry leaves, and its fetch becomes STALE. -/
theorem Ffu.makeStale_eq {u : Ffu} {slot : Nat} (h : u.lawful) (hr : FetchEntry.mk slot .reading ∈ u.queue) :
    ∃ f rest, u.buffer = some f ∧ u.queue = FetchEntry.mk slot .reading :: rest ∧ (∀ e ∈ rest, e.state = .waiting) ∧
      u.makeStale slot = { u with queue := rest, buffer := some { f with stale := true } } := by
  obtain ⟨f, rest, hf, -, -, hqueue, hwait⟩ := Ffu.lawful_of_reading h hr
  refine ⟨f, rest, hf, hqueue, hwait, ?_⟩
  have hrest : rest.filter (fun e => decide (e ≠ FetchEntry.mk slot .reading)) = rest := by
    refine List.filter_eq_self.mpr fun e he => ?_
    have := hwait e he
    simp only [decide_eq_true_eq]
    rintro rfl
    simp at this
  simp only [Ffu.makeStale, hqueue, hf, Option.map_some]
  rw [List.filter_cons_of_neg (by simp), hrest]

theorem nodup_slots_append {queue : List FetchEntry} {slot : Nat} (h : (queue.map (·.slot)).Nodup)
    (hfresh : slot ∉ queue.map (·.slot)) : ((queue ++ [FetchEntry.mk slot .waiting]).map (·.slot)).Nodup := by
  rw [List.map_append, List.map_singleton, List.nodup_append]
  refine ⟨h, by simp, fun a ha b hb => ?_⟩
  rw [List.mem_singleton] at hb
  rintro rfl
  rw [hb] at ha
  exact hfresh ha

theorem waiting_append {queue : List FetchEntry} (slot : Nat) (h : ∀ e ∈ queue, e.state = .waiting) :
    ∀ e ∈ queue ++ [FetchEntry.mk slot .waiting], e.state = .waiting :=
  List.forall_mem_append.mpr ⟨h, by simp⟩

theorem Ffu.append_lawful {u : Ffu} {slot : Nat} (h : u.lawful) (hlen : u.queue.length < 16)
    (hfresh : slot ∉ u.queue.map (·.slot)) : (u.append slot).lawful := by
  obtain ⟨-, hnodup, hbuffer, hover⟩ := id h
  have hlen' : (u.queue ++ [FetchEntry.mk slot .waiting]).length ≤ 16 := by simp; omega
  have hnodup' : ((u.queue ++ [FetchEntry.mk slot .waiting]).map (·.slot)).Nodup :=
    nodup_slots_append hnodup hfresh
  unfold Ffu.append
  cases hf : u.buffer with
  | none =>
    rw [hf] at hbuffer
    refine Ffu.promote_lawful hlen' hnodup' rfl ?_ (by simp)
    simp [show u.queue = [] from hbuffer]
  | some f =>
    have hidle : ∀ queue overrun, Ffu.promote { queue := queue, buffer := some f, overrun := overrun } =
        { queue := queue, buffer := some f, overrun := overrun } := fun _ _ => rfl
    rw [hidle]
    obtain ⟨hstale, hwait⟩ | ⟨hstale, rest, hqueue, hwait⟩ := Ffu.lawful_of_buffer h hf
    · refine Ffu.lawful_waiting hlen' hnodup' rfl hstale (waiting_append slot hwait) (by simp)
    · refine Ffu.lawful_reading (rest := rest ++ [FetchEntry.mk slot .waiting]) hlen' hnodup' rfl hstale (by simp [hqueue])
        (waiting_append slot hwait)

theorem Ffu.restart_lawful {u : Ffu} {slot : Nat} (h : u.lawful) (hr : FetchEntry.mk slot .reading ∈ u.queue) :
    ((u.makeStale slot).append slot).lawful := by
  obtain ⟨f, rest, hf, hqueue, hwait, hstale⟩ := Ffu.makeStale_eq h hr
  obtain ⟨hlen, hnodup, -, -⟩ := h
  rw [hqueue] at hlen hnodup
  simp only [List.map_cons, List.nodup_cons, List.length_cons] at hlen hnodup
  obtain ⟨hfresh, hnodup⟩ := hnodup
  rw [hstale]
  have hnodup' : ((rest ++ [FetchEntry.mk slot .waiting]).map (·.slot)).Nodup :=
    nodup_slots_append hnodup hfresh
  refine Ffu.lawful_waiting (f := { f with stale := true }) ?_ hnodup' rfl rfl (waiting_append slot hwait)
    (by simp [Ffu.append, Ffu.promote])
  simp [Ffu.append, Ffu.promote]
  omega

theorem Ffu.stop_lawful {u : Ffu} {slot : Nat} (h : u.lawful) (hr : FetchEntry.mk slot .reading ∈ u.queue) :
    (u.makeStale slot).clearIfEmpty.lawful := by
  obtain ⟨f, rest, -, hqueue, hwait, hstale⟩ := Ffu.makeStale_eq h hr
  obtain ⟨hlen, hnodup, -, -⟩ := h
  rw [hqueue] at hlen hnodup
  simp only [List.map_cons, List.nodup_cons, List.length_cons] at hlen hnodup
  rw [hstale]
  exact Ffu.clearIfEmpty_lawful (f := { f with stale := true }) (by dsimp only; omega) hnodup.2 rfl rfl hwait

theorem Ffu.dropWaiting_lawful {u : Ffu} {slot : Nat} (h : u.lawful) (hw : FetchEntry.mk slot .waiting ∈ u.queue) :
    (u.dropWaiting slot).clearIfEmpty.lawful := by
  obtain ⟨hlen, hnodup, hbuffer, -⟩ := id h
  have hsub : (u.dropWaiting slot).queue.Sublist u.queue := List.filter_sublist
  cases hf : u.buffer with
  | none =>
    rw [hf] at hbuffer
    simp [show u.queue = [] from hbuffer] at hw
  | some f =>
    obtain ⟨hstale, hwait⟩ | ⟨hstale, rest, hqueue, hwait⟩ := Ffu.lawful_of_buffer h hf
    · exact Ffu.clearIfEmpty_lawful (hsub.length_le.trans hlen) (hnodup.sublist (hsub.map _)) hf hstale
        fun e he => hwait e (hsub.subset he)
    · have hdrop : (u.dropWaiting slot).queue = FetchEntry.mk f.slot .reading ::
          rest.filter fun e => decide (e ≠ FetchEntry.mk slot .waiting) := by
        simp [Ffu.dropWaiting, hqueue]
      have hne : (u.dropWaiting slot).clearIfEmpty = u.dropWaiting slot := by
        rw [Ffu.clearIfEmpty, hdrop]; rfl
      rw [hne]
      exact Ffu.lawful_reading (hsub.length_le.trans hlen) (hnodup.sublist (hsub.map _)) hf hstale hdrop
        fun e he => hwait e (List.mem_of_mem_filter he)

theorem Ffu.overrun_lawful {u : Ffu} (h : u.lawful) (hqueue : u.queue ≠ []) : Ffu.lawful { u with overrun := true } := by
  obtain ⟨hlen, hnodup, hbuffer, -⟩ := h
  exact ⟨hlen, hnodup, hbuffer, fun h => absurd h hqueue⟩

theorem Ffu.empty_lawful : Ffu.lawful { queue := [], buffer := none, overrun := false } :=
  ⟨by simp, by simp, rfl, fun _ => rfl⟩

end Sys2Proof.Machine

namespace Sys2Proof.Machine

/-! ### The events -/

/-- What an arriving frame or an accepted MODIFY makes of a record, with the free counts before and after: fields R99 does not
name keep, and the ranges, R125's law and R123's sum are kept. -/
structure Context.Requeue (c d : Context) (free free' : Nat) : Prop where
  frame : d = { c with
    cfg := d.cfg, playout := d.playout, expected := d.expected, counters := d.counters, edges := d.edges }
  cfg : d.cfg = { d.cfg with
    uplink := c.cfg.uplink, downlink := c.cfg.downlink, inSlot := c.cfg.inSlot, outSlot := c.cfg.outSlot, tag := c.cfg.tag }
  inRange : c.cfg.inRange → d.cfg.inRange
  tmpl : c.cfg.tmpl.length ≤ 8 → d.cfg.tmpl.length ≤ 8
  counters : (∀ n ∈ c.counters.list, n ≤ 65535) → ∀ n ∈ d.counters.list, n ≤ 65535
  requests : (∀ e ∈ c.playout, e.request ≤ 3) → ∀ e ∈ d.playout, e.request ≤ 3
  queue : 2 ≤ c.cfg.q → c.cfg.q ≤ 8 → c.cfg.d < c.cfg.q → playoutOrdered c.cfg.q c.expected c.playout →
    (2 ≤ d.cfg.q ∧ d.cfg.q ≤ 8 ∧ d.cfg.d < d.cfg.q) ∧ playoutOrdered d.cfg.q d.expected d.playout ∧
      free' + d.blocksHeld = free + c.blocksHeld

/-- The record once one of its context's jobs is done: a CLOSING context without another is CLOSED (R104, R138, R141). -/
def Context.freed (c : Context) : Context :=
  { c with
    runningJobs := c.runningJobs - 1
    state := if c.state = .closing ∧ c.runningJobs ≤ 1 then .closed else c.state }

/-- A running job of the context and kind leaves its lane (R104, R131, R138, R141). -/
def State.freed (s : State) (k : Nat) (kind : JobKind) : State :=
  { s with
    engine := { s.engine with running := s.engine.running.filter fun r => decide (r.job ≠ Job.mk k kind) }
    ctxs := s.ctxs.set k (s.ctx k).freed }

/-- The state once the head of the order has entered the queue (R152). -/
def State.entered (s : State) (g : Group) (rest : List Group) : State :=
  { s with pwq := { entries := s.pwq.entries ++ s.groupWords g, waiting := rest } }

/-- The changes a step is made of. -/
inductive Event : State → State → Prop
  /-- Memory, the shadow, the queue of words, the arbiter's counters, the read data and the commands waiting. -/
  | port (s : State) (mem shadow : Memory) (entries : List QWord) (mpa : Mpa) (readData : List Byte) (openReads : Nat)
      (pending : List Instr) (hmem : Memory.wf s.mem = true → Memory.wf mem = true)
      (hshadow : Memory.wf s.shadow = true → Memory.wf shadow = true) (hentries : entries.length ≤ s.pwq.entries.length)
      (hdrain : s.mpa.drainCount ≤ 255 → mpa.drainCount ≤ 255) (hfetch : s.mpa.fetchCount ≤ 255 → mpa.fetchCount ≤ 255) :
      Event s { s with mem := mem, shadow := shadow, pwq := { s.pwq with entries := entries }, mpa := mpa, readData := readData,
                       openReads := openReads, pending := pending }
  | touch (s : State) (k : Nat) (d : Context) (h : (s.ctx k).Touch d) : Event s (s.setCtx k d)
  | notice (s u : State) (h : Refill s u) (hfree : u.pool.free = s.pool.free) : Event s u
  | status (s : State) (w : QWord) : Event s (s.requestGroup (.status w))
  | fetchUnit (s : State) (u : Ffu) (h : s.ffu.lawful → u.lawful) : Event s { s with ffu := u }
  | ingressClock (s : State) (f steps : Nat) (h : f < s.win.frames) : Event s (s.moveIngress f steps)
  | egressClock (s : State) (f steps : Nat) (h : f < s.win.frames) : Event s (s.moveEgress f steps)
  | timeout (s : State) : Event s s.setTimeout
  | egressConsumer (s : State) (h : s.part.state = .running) : Event s s.egressConsumer
  | noticeConsumer (s : State) (h : s.part.state = .running) : Event s s.noticeConsumer
  | withdrawEncode (s : State) (k : Nat) : Event s (s.withdrawJob k .encode)
  | requestEncode (s : State) (k : Nat) (hactive : (s.ctx k).state = .active) (hnew : Job.mk k .encode ∉ s.engine.jobs) :
      Event s (s.requestJob k .encode)
  | swap (s : State) (k : Nat) (hactive : (s.ctx k).state = .active) (hdownlink : (s.ctx k).cfg.downlink = true)
      (hready : (s.ctx k).nReady = true) : Event s ((s.modCtx k Context.swap).requestJob k .decode)
  | startEncode (s : State) (k : Nat) (h : s.chosenJob = some { ctx := k, kind := .encode }) : Event s (s.startEncode k)
  | startDecode (s : State) (k : Nat) (h : s.chosenJob = some { ctx := k, kind := .decode }) : Event s (s.startDecode k)
  | encoded (s : State) (j : EncodeJob) (hj : Running.encode j ∈ s.engine.running) :
      Event s (s.modCtx j.ctx fun c => { c with enc := (encodeWork j).enc })
  | queued (s : State) (j : EncodeJob) (f : Frame) (hj : Running.encode j ∈ s.engine.running) (hwaiting : j.waiting = false)
      (hactive : (s.ctx j.ctx).state = .active) (hf : (encodeWork j).frame = some f) :
      Event s { (s.requestGroup (s.egressGroup j f)).markWaiting j.ctx with
                  erw := { s.erw with waiting := s.erw.waiting + 1 } }
  | encodeDone (s : State) (j : EncodeJob) (hj : Running.encode j ∈ s.engine.running) (hwaiting : j.waiting = false) :
      Event s (s.freed j.ctx .encode)
  | decoded (s : State) (j : DecodeJob) (hj : Running.decode j ∈ s.engine.running) (hactive : (s.ctx j.ctx).state = .active) :
      Event s ((s.modCtx j.ctx (Context.takeDecoded (decodeWork j))).freeLane j.ctx .decode)
  | decodeDropped (s : State) (j : DecodeJob) (hj : Running.decode j ∈ s.engine.running)
      (hstate : (s.ctx j.ctx).state ≠ .active) : Event s (s.freed j.ctx .decode)
  | admitPlain (s : State) (g : Group) (rest : List Group) (hwaiting : s.pwq.waiting = g :: rest)
      (hg : g.isStatusOrIndex = true) (hfit : s.pwq.entries.length + g.size ≤ 64) : Event s (s.entered g rest)
  | admitNotice (s : State) (ws : List QWord) (rest : List Group) (hwaiting : s.pwq.waiting = .notice ws :: rest)
      (hfit : s.pwq.entries.length + ws.length ≤ 64) :
      Event s ({ s.entered (.notice ws) rest with
        ntw := { s.ntw with producer := (s.ntw.producer + 1) % s.win.nn, waiting := s.ntw.waiting - 1, timer := 0 } }).examineEvent
  | admitEgress (s : State) (k slot : Nat) (ws : List (Nat × Lanes)) (rest : List Group)
      (hwaiting : s.pwq.waiting = .egress k slot ws :: rest) (hstate : (s.ctx k).state ≠ .closing)
      (hfit : s.pwq.entries.length + (ws.length + 1) ≤ 64) :
      Event s (({ s.entered (.egress k slot ws) rest with
        erw := { s.erw with producer := (s.erw.producer + 1) % s.win.ne, waiting := s.erw.waiting - 1 } }).freed k .encode).examineReady
  | discard (s : State) (k slot : Nat) (ws : List (Nat × Lanes)) (rest : List Group)
      (hwaiting : s.pwq.waiting = .egress k slot ws :: rest) (hstate : (s.ctx k).state = .closing) :
      Event s (({ s with
        pwq := { s.pwq with waiting := rest.map (Group.moveBack s.win.ne) }
        erw := { s.erw with waiting := s.erw.waiting - 1 } } : State).freed k .encode)
  | requeue (s u : State) (k : Nat) (d : Context) (hfill : Refill s u)
      (h : (s.ctx k).Requeue d s.pool.free u.pool.free) (hlive : (s.ctx k).state = .active ∨ ∃ p ∈ s.tags, p.2 = k) :
      Event s (u.setCtx k d)
  | openContext (s : State) (k : Nat) (hk : k < 384) (h : s.openRefusal k = none) : Event s (s.openEffect k)
  | handover (s : State) (k : Nat) (h : s.handoverRefusal k = none) : Event s (s.handoverEffect k)
  | close (s : State) (k : Nat) (tag : Byte) (h : (s.ctx k).state = .active) : Event s (s.closeEffect k tag)
  | start (s : State) (h : s.startRefusal = none) : Event s s.startEffect
  | stop (s : State) (h : ∀ c ∈ s.ctxs, c.state = .closed) : Event s s.becomeIdle
  | clear (s : State) : Event s s.clearEffect
  | reset (s : State) (cbBase : BitVec 13) (memSize : BitVec 3) (shadow : Memory) (h : shadow = [] ∨ shadow = s.shadow) :
      Event s { State.afterReset cbBase memSize shadow s.mem with
                  openReads := s.openReads, fitted := s.fitted, pending := s.pending }

/-- A run of events. -/
abbrev Run : State → State → Prop := Relation.ReflTransGen Event

theorem Event.run {s t : State} (h : Event s t) : Run s t := .single h

/-- What every event keeps, a run keeps. -/
theorem Run.keeps {P : State → Prop} (h : ∀ s t, Event s t → P s → P t) {s t : State} (hrun : Run s t) (hs : P s) : P t := by
  induction hrun with
  | refl => exact hs
  | tail _ hevent ih => exact h _ _ hevent ih

/-! ### Runs of small changes -/

section
variable (s : State)

theorem Run.pending (l : List Instr) : Run s { s with pending := l } :=
  (Event.port s s.mem s.shadow s.pwq.entries s.mpa s.readData s.openReads l id id le_rfl id id).run

theorem Run.setEdges (k : Nat) (f : Edges → Edges) : Run s (s.setEdges k f) := (Event.touch s k _ (Context.touch_edges _)).run

theorem Run.count (k : Nat) {f : Counters → Counters} (h : ∀ c, (∀ n ∈ c.list, n ≤ 65535) → ∀ n ∈ (f c).list, n ≤ 65535) :
    Run s (s.count k f) := (Event.touch s k _ (Context.touch_counters (h _))).run

theorem Run.placeNotice (kind : NoticeKind) (ctx detail : Nat) {l : List Nat} (hl : l.length = 9) :
    Run s (s.placeNotice kind ctx detail l) :=
  (Event.notice s _ (s.placeNotice_refill _ _ _ hl) (by rw [State.placeNotice_pool])).run

theorem Run.ctxStatus (k : Nat) (r : Result) (tag code : Byte) : Run s (s.ctxStatus k r tag code) := (Event.status s _).run

theorem Run.ctlStatus (r : Result) (tag code : Byte) : Run s (s.ctlStatus r tag code) := (Event.status s _).run

/-- A notice that an edge flag gates (R165). -/
theorem Run.gated (k detail : Nat) (flag : Bool) (f : Edges → Edges) (kind : NoticeKind) :
    Run s (if flag then s else (s.setEdges k f).placeNotice kind k detail noCounters) := by
  split
  · exact .refl
  · exact (Run.setEdges s k f).trans (Run.placeNotice _ _ _ _ rfl)

theorem Run.noticeUplinkMissed (k detail : Nat) : Run s (s.noticeUplinkMissed k detail) := Run.gated ..
theorem Run.noticeEgressFull (k detail : Nat) : Run s (s.noticeEgressFull k detail) := Run.gated ..
theorem Run.noticeSlip (k detail : Nat) : Run s (s.noticeSlip k detail) := Run.gated ..
theorem Run.noticeRejected (k detail : Nat) : Run s (s.noticeRejected k detail) := Run.gated ..
theorem Run.noticeClosed (k : Nat) : Run s (s.noticeClosed k) := Run.placeNotice _ _ _ _ rfl

/-- What every entry of a list adds to a run, the whole list adds. -/
theorem Run.foldl {α : Type} {f : State → α → State} {P : State → Prop} (l : List α)
    (hrun : ∀ s, P s → ∀ a ∈ l, Run s (f s a)) (hkeep : ∀ s, P s → ∀ a ∈ l, P (f s a)) (hs : P s) : Run s (l.foldl f s) := by
  induction l generalizing s with
  | nil => exact .refl
  | cons a l ih =>
    have hfirst := hrun s hs a List.mem_cons_self
    exact hfirst.trans (ih _ (fun s hs b hb => hrun s hs b (List.mem_cons_of_mem _ hb))
      (fun s hs b hb => hkeep s hs b (List.mem_cons_of_mem _ hb)) (hkeep s hs a List.mem_cons_self))

end

theorem Counters.bounded_iff {c : Counters} : (∀ n ∈ c.list, n ≤ 65535) ↔
    c.encoded ≤ 65535 ∧ c.sent ≤ 65535 ∧ c.uplinkMissed ≤ 65535 ∧ c.egressDropped ≤ 65535 ∧ c.received ≤ 65535 ∧
      c.late ≤ 65535 ∧ c.rejected ≤ 65535 ∧ c.concealed ≤ 65535 ∧ c.slips ≤ 65535 := by
  simp [Counters.list]

end Sys2Proof.Machine

namespace Sys2Proof.Machine

/-! ### A flip (R67) -/

/-- The record once a missed frame is counted: the edge flag stands whether or not this one set it (R67, R165). -/
def Context.missed (c : Context) : Context :=
  { c with
    counters := { c.counters with uplinkMissed := satInc c.counters.uplinkMissed }
    edges := { c.edges with uplinkMissed := true } }

section
variable {s : State} {k : Nat}

theorem State.isPending_iff {kind : JobKind} : s.isPending k kind = true ↔ Job.mk k kind ∈ s.engine.jobs := by
  simp [State.isPending]

theorem State.missUplink_of_absent (h : Job.mk k .encode ∉ s.engine.jobs) : s.missUplink k = s :=
  if_neg (mt State.isPending_iff.mp h)

theorem State.missUplink_of_pending (h : Job.mk k .encode ∈ s.engine.jobs) :
    s.missUplink k = (((s.withdrawJob k .encode).count k fun n =>
      { n with uplinkMissed := satInc n.uplinkMissed }).noticeUplinkMissed k (s.ctx k).fullHalf.seq.toNat) :=
  if_pos (State.isPending_iff.mpr h)

/-- R165: with the edge flag set, a missed frame is counted and not notified. -/
theorem State.missUplink_of_flagged (h : Job.mk k .encode ∈ s.engine.jobs) (hk : k < s.ctxs.length)
    (hflag : (s.ctx k).edges.uplinkMissed = true) :
    s.missUplink k = (s.withdrawJob k .encode).modCtx k Context.missed := by
  have hmissed : (s.ctx k).missed =
      { s.ctx k with counters := { (s.ctx k).counters with uplinkMissed := satInc (s.ctx k).counters.uplinkMissed } } := by
    rw [Context.missed, ← hflag]
  rw [State.missUplink_of_pending h, State.noticeUplinkMissed, State.count,
    (s.withdrawJob k .encode).ctx_modCtx_self _ hk]
  refine (if_pos hflag).trans ?_
  exact congrArg (State.setCtx (s.withdrawJob k .encode) k) hmissed.symm

/-- R67: with the edge flag clear, a missed frame sets it and requests a notice. -/
theorem State.missUplink_of_unflagged (h : Job.mk k .encode ∈ s.engine.jobs) (hk : k < s.ctxs.length)
    (hflag : (s.ctx k).edges.uplinkMissed = false) :
    s.missUplink k = ((s.withdrawJob k .encode).modCtx k Context.missed).placeNotice .uplinkMissed k
      (s.ctx k).fullHalf.seq.toNat noCounters := by
  rw [State.missUplink_of_pending h, State.noticeUplinkMissed, State.count,
    (s.withdrawJob k .encode).ctx_modCtx_self _ hk]
  refine (if_neg (show ¬ (s.ctx k).edges.uplinkMissed = true by simp [hflag])).trans ?_
  rw [State.setEdges, State.modCtx_comp]
  rfl

/-- What a missed frame leaves of the records and the engine, whatever the edge flag. -/
theorem State.missUplink_records (hk : k < s.ctxs.length) :
    (s.missUplink k).engine = { s.engine with jobs := s.engine.jobs.filter (· != Job.mk k .encode) } ∧
      (s.missUplink k).ctxs =
        (if Job.mk k .encode ∈ s.engine.jobs then s.modCtx k Context.missed else s).ctxs := by
  by_cases h : Job.mk k .encode ∈ s.engine.jobs
  · cases hflag : (s.ctx k).edges.uplinkMissed with
    | true => rw [State.missUplink_of_flagged h hk hflag, if_pos h]; exact ⟨rfl, rfl⟩
    | false => rw [State.missUplink_of_unflagged h hk hflag, if_pos h, State.placeNotice_frame]; exact ⟨rfl, rfl⟩
  · have hfilter : s.engine.jobs.filter (· != Job.mk k .encode) = s.engine.jobs :=
      List.filter_eq_self.mpr fun j hj => bne_iff_ne.mpr fun e => h (e ▸ hj)
    rw [State.missUplink_of_absent h, if_neg h, hfilter]
    exact ⟨rfl, rfl⟩

/-- R67: a flip leaves every other record, and of its own the state and the configuration. -/
theorem State.flip_keeps (hk : k < s.ctxs.length) (j : Nat) :
    ((s.flip k).ctx j).state = (s.ctx j).state ∧ ((s.flip k).ctx j).cfg = (s.ctx j).cfg := by
  obtain ⟨-, hctxs⟩ := State.missUplink_records hk
  have hctx : ∀ i, (s.missUplink k).ctx i =
      (if Job.mk k .encode ∈ s.engine.jobs then s.modCtx k Context.missed else s).ctx i := fun i => by
    simp only [State.ctx, hctxs]
  have hmissed : ((s.missUplink k).ctx j).state = (s.ctx j).state ∧ ((s.missUplink k).ctx j).cfg = (s.ctx j).cfg := by
    rw [hctx]
    split
    · rw [State.modCtx, State.ctx_setCtx]
      split <;> simp_all [Context.missed]
    · exact ⟨rfl, rfl⟩
  have hflip : ∀ c : Context, c.flipHalves.state = c.state ∧ c.flipHalves.cfg = c.cfg := by
    intro c
    unfold Context.flipHalves
    split <;> exact ⟨rfl, rfl⟩
  rw [State.flip, State.ctx_requestJob, State.modCtx, State.ctx_setCtx]
  split
  · rename_i hj
    obtain ⟨rfl, -⟩ := hj
    rw [(hflip _).1, (hflip _).2]
    exact hmissed
  · exact hmissed

theorem State.flip_length (s : State) (k : Nat) : (s.flip k).ctxs.length = s.ctxs.length := by
  have hplace : ∀ (t : State) kind ctx detail l, (t.placeNotice kind ctx detail l).ctxs = t.ctxs := fun t _ _ _ _ => by
    rw [t.placeNotice_frame]
  simp only [State.flip, State.missUplink, State.noticeUplinkMissed, State.requestJob, State.modCtx, State.setCtx_length]
  split
  · split
    · simp [State.count, State.modCtx]
    · simp [hplace, State.setEdges, State.count, State.modCtx]
  · rfl

theorem Run.flip (hactive : (s.ctx k).state = .active) : Run s (s.flip k) := by
  have hk := s.lt_length_of_active hactive
  obtain ⟨hengine, hctxs⟩ := State.missUplink_records hk
  have hmiss : Run s (s.missUplink k) := by
    unfold State.missUplink
    split
    · refine ((Event.withdrawEncode s k).run.trans (Run.count _ _ ?_)).trans (Run.noticeUplinkMissed ..)
      simp +contextual [Counters.bounded_iff, satInc_le]
    · exact .refl
  have hturn : Run (s.missUplink k) ((s.missUplink k).modCtx k Context.flipHalves) :=
    (Event.touch _ k _ Context.touch_flipHalves).run
  refine (hmiss.trans hturn).trans (Event.requestEncode _ k ?_ ?_).run
  · have hstate := (State.flip_keeps hk k).1
    rw [State.flip, State.ctx_requestJob, hactive] at hstate
    exact hstate
  · rw [State.modCtx_engine, hengine]
    simp

end

end Sys2Proof.Machine

/-! The playout queues (R125 to R130): an arrival, an answer and a lowered Q each put one new record in its context's place, beside
moves of pool blocks. Distances from a moved expected are distances shifted; the order and the block sum follow. -/
namespace Sys2Proof.Machine

/-! ### Distances (R125) -/

theorem distance_lt (x a : Byte) : distance x a < 256 := BitVec.isLt _

theorem distance_inj {x a b : Byte} : distance x a = distance x b ↔ a = b := by
  constructor
  · intro h
    have hsub : a - x = b - x := BitVec.eq_of_toNat_eq h
    calc a = (a - x) + x := (BitVec.sub_add_cancel a x).symm
      _ = (b - x) + x := by rw [hsub]
      _ = b := BitVec.sub_add_cancel b x
  · rintro rfl; rfl

theorem distance_eq_zero {x a : Byte} : distance x a = 0 ↔ a = x := by
  have hself : distance x x = 0 := by simp [distance]
  rw [← hself, distance_inj]

/-- Distances from an expected that has moved on by `n`. -/
theorem distance_add (x a : Byte) {n : Nat} (hn : n < 256) :
    distance (x + BitVec.ofNat 8 n) a = (distance x a + (256 - n)) % 256 := by
  simp only [distance, BitVec.toNat_sub, BitVec.toNat_add, BitVec.toNat_ofNat]
  omega

/-- Distances from the expected that puts a frame at distance `n`. -/
theorem distance_sub_self (a : Byte) {n : Nat} (hn : n < 256) : distance (a - BitVec.ofNat 8 n) a = n := by
  simp only [distance, BitVec.toNat_sub, BitVec.toNat_ofNat]
  omega

theorem sub_eq_add_distance (x a : Byte) {n : Nat} (hn : n ≤ distance x a) :
    a - BitVec.ofNat 8 n = x + BitVec.ofNat 8 (distance x a - n) := by
  have := distance_lt x a
  apply BitVec.eq_of_toNat_eq
  simp only [distance, BitVec.toNat_sub, BitVec.toNat_add, BitVec.toNat_ofNat] at *
  omega

/-! ### Ordered queues (R125) -/

/-- The pool blocks that entries hold. -/
def blocksOf (l : List PlayEntry) : Nat := (l.map (·.blocks)).sum

theorem Context.blocksHeld_eq (c : Context) : c.blocksHeld = blocksOf c.playout := rfl

@[simp] theorem blocksOf_nil : blocksOf [] = 0 := rfl

@[simp] theorem blocksOf_cons (e : PlayEntry) (l : List PlayEntry) : blocksOf (e :: l) = e.blocks + blocksOf l := by
  simp [blocksOf]

/-- What a filter keeps and what it takes out hold all the blocks between them. -/
theorem blocksOf_filter_add (p q : PlayEntry → Bool) (h : ∀ e, q e = !p e) (l : List PlayEntry) :
    blocksOf (l.filter p) + blocksOf (l.filter q) = blocksOf l := by
  induction l with
  | nil => rfl
  | cons e l ih =>
    cases hp : p e with
    | true => simp [h, hp, ← ih]; omega
    | false => simp [h, hp, ← ih]; omega

/-- Entries ordered by distance from `x`. -/
abbrev Ordered (x : Byte) (l : List PlayEntry) : Prop := l.Pairwise fun a b => distance x a.seq < distance x b.seq

theorem playoutOrdered_some {q : Nat} {x : Byte} {l : List PlayEntry} :
    playoutOrdered q (some x) l ↔ Ordered x l ∧ ∀ e ∈ l, distance x e.seq < q := Iff.rfl

theorem mem_insertByDistance {x : Byte} {e o : PlayEntry} {l : List PlayEntry} :
    o ∈ insertByDistance x e l ↔ o = e ∨ o ∈ l := by
  induction l with
  | nil => simp [insertByDistance]
  | cons a l ih =>
    rw [insertByDistance]
    split
    · simp
    · simp [ih]; tauto

theorem blocksOf_insertByDistance (x : Byte) (e : PlayEntry) (l : List PlayEntry) :
    blocksOf (insertByDistance x e l) = blocksOf l + e.blocks := by
  induction l with
  | nil => simp [insertByDistance]
  | cons a l ih =>
    rw [insertByDistance]
    split
    · simp only [blocksOf_cons]; omega
    · simp only [blocksOf_cons, ih]; omega

theorem ordered_insertByDistance {x : Byte} {e : PlayEntry} {l : List PlayEntry} (h : Ordered x l)
    (hnew : ∀ o ∈ l, o.seq ≠ e.seq) : Ordered x (insertByDistance x e l) := by
  induction l with
  | nil => simp [Ordered, insertByDistance]
  | cons a l ih =>
    obtain ⟨hal, hl⟩ := List.pairwise_cons.mp h
    rw [insertByDistance]
    split
    · rename_i hea
      exact List.pairwise_cons.mpr ⟨List.forall_mem_cons.mpr ⟨hea, fun o ho => hea.trans (hal o ho)⟩, h⟩
    · rename_i hea
      refine List.pairwise_cons.mpr ⟨fun o ho => ?_, ih hl fun o ho => hnew o (List.mem_cons_of_mem _ ho)⟩
      rcases mem_insertByDistance.mp ho with rfl | ho
      · have hne : distance x a.seq ≠ distance x o.seq := mt distance_inj.mp (hnew a List.mem_cons_self)
        omega
      · exact hal o ho

/-- An ordered queue stays ordered where every distance of an entry kept falls by the same number. -/
theorem Ordered.shift {x y : Byte} {l : List PlayEntry} (h : Ordered x l) {n : Nat}
    (hshift : ∀ e ∈ l, n ≤ distance x e.seq ∧ distance y e.seq = distance x e.seq - n) : Ordered y l := by
  refine List.Pairwise.imp_of_mem ?_ h
  intro a b ha hb hab
  have := hshift a ha
  have := hshift b hb
  omega

/-! ### Records of an arrival -/

/-- R128: a frame is inserted, and the rejected edge flag cleared. -/
def Context.insert (e : PlayEntry) (c : Context) : Context :=
  { c with
    playout := insertByDistance (c.expected.getD e.seq) e c.playout
    edges := { c.edges with rejected := false } }

/-- LATE counted `n` times over. -/
def Context.late (n : Nat) (c : Context) : Context :=
  { c with counters := if n = 0 then c.counters else { c.counters with late := min (c.counters.late + n) 65535 } }

/-- The entries of a queue that are not within `q` of `x`. -/
def beyond (x : Byte) (q : Nat) (l : List PlayEntry) : List PlayEntry := l.filter fun e => decide (q ≤ distance x e.seq)

/-- The entries of a queue within `q` of `x`. -/
def within (x : Byte) (q : Nat) (l : List PlayEntry) : List PlayEntry := l.filter fun e => decide (distance x e.seq < q)

/-- R100, R129: the entries not within `q` of `x` leave the queue, each counting LATE. -/
def Context.release (x : Byte) (q : Nat) (c : Context) : Context :=
  { c with playout := within x q c.playout }.late (beyond x q c.playout).length

/-- The expected set as given. -/
def Context.expect (x : Byte) (c : Context) : Context := { c with expected := some x }

theorem blocksOf_within_add (x : Byte) (q : Nat) (l : List PlayEntry) :
    blocksOf (within x q l) + blocksOf (beyond x q l) = blocksOf l :=
  blocksOf_filter_add _ _ (fun e => by simp [← decide_not]) l

theorem mem_within {x : Byte} {q : Nat} {l : List PlayEntry} {e : PlayEntry} :
    e ∈ within x q l ↔ e ∈ l ∧ distance x e.seq < q := by
  simp [within]

/-! ### Blocks that return one after another -/

/-- Entries return their blocks in turn (R123). -/
def State.returnEach (s : State) (es : List PlayEntry) : State := es.foldl (fun s e => s.returnBlocks e.blocks) s

theorem State.returnEach_refill (s : State) (es : List PlayEntry) : Refill s (s.returnEach es) := by
  induction es generalizing s with
  | nil => exact Refill.refl s
  | cons e es ih => exact (s.returnBlocks_refill _).trans (ih _)

theorem State.returnEach_free (s : State) (es : List PlayEntry) :
    (s.returnEach es).pool.free = s.pool.free + blocksOf es := by
  induction es generalizing s with
  | nil => rfl
  | cons e es ih =>
    have := ih (s.returnBlocks e.blocks)
    rw [State.returnBlocks_free] at this
    simp only [blocksOf_cons, ← Nat.add_assoc]
    exact this

section
variable (s : State) (k : Nat) (c : Context)

theorem State.placeNotice_setCtx (kind : NoticeKind) (ctx detail : Nat) (l : List Nat) :
    (s.setCtx k c).placeNotice kind ctx detail l = (s.placeNotice kind ctx detail l).setCtx k c := by
  unfold State.placeNotice
  rw [apply_ite (State.setCtx · k c)]
  rfl

theorem State.examineLow_setCtx : (s.setCtx k c).examineLow = s.examineLow.setCtx k c := by
  unfold State.examineLow
  simp only [apply_ite (State.setCtx · k c), ← State.placeNotice_setCtx]
  rfl

theorem State.returnBlocks_setCtx (n : Nat) : (s.setCtx k c).returnBlocks n = (s.returnBlocks n).setCtx k c :=
  ({ s with pool := { s.pool with free := s.pool.free + n } } : State).examineLow_setCtx k c

theorem State.takeBlocks_setCtx (n : Nat) : (s.setCtx k c).takeBlocks n = (s.takeBlocks n).setCtx k c :=
  ({ s with pool := { s.pool with free := s.pool.free - n } } : State).examineLow_setCtx k c

theorem State.returnEach_setCtx (es : List PlayEntry) : (s.setCtx k c).returnEach es = (s.returnEach es).setCtx k c := by
  induction es generalizing s with
  | nil => rfl
  | cons e es ih => exact (congrArg (State.returnEach · es) (s.returnBlocks_setCtx k c e.blocks)).trans (ih _)

end

section
variable (s : State) (k : Nat) (f : Context → Context)

theorem State.modCtx_congr {f g : Context → Context} (h : f (s.ctx k) = g (s.ctx k)) : s.modCtx k f = s.modCtx k g := by
  rw [State.modCtx, h, State.modCtx]

theorem State.returnEach_modCtx (es : List PlayEntry) : (s.modCtx k f).returnEach es = (s.returnEach es).modCtx k f := by
  rw [State.modCtx, State.returnEach_setCtx, State.modCtx, State.ctx, (s.returnEach_refill es).frame]
  rfl

theorem State.takeBlocks_modCtx (n : Nat) : (s.modCtx k f).takeBlocks n = (s.takeBlocks n).modCtx k f := by
  rw [State.modCtx, State.takeBlocks_setCtx, State.modCtx, State.ctx, (s.takeBlocks_refill n).frame]
  rfl

end

section
variable {s u : State}

theorem Refill.ctxs (h : Refill s u) : u.ctxs = s.ctxs := by rw [h.frame]

theorem Refill.ctx (h : Refill s u) (k : Nat) : u.ctx k = s.ctx k := by rw [State.ctx, h.ctxs]; rfl

end

/-! ### The operations as one new record (R100, R126 to R129) -/

theorem Context.late_late (m n : Nat) (c : Context) : (c.late m).late n = c.late (m + n) := by
  unfold Context.late
  by_cases hm : m = 0
  · subst hm; simp
  · by_cases hn : n = 0
    · subst hn; simp
    · simp [hm, hn]; omega

theorem State.releaseLate_eq (s : State) (k : Nat) (e : PlayEntry) :
    s.releaseLate k e = (s.returnBlocks e.blocks).modCtx k (Context.late 1) := rfl

/-- Entries released one after another: their blocks return, and LATE is counted as often. -/
theorem State.releaseEach_eq (k : Nat) (es : List PlayEntry) (s : State) :
    es.foldl (fun s e => s.releaseLate k e) s = (s.returnEach es).modCtx k (Context.late es.length) := by
  induction es generalizing s with
  | nil => exact (State.modCtx_eq_self _ rfl).symm
  | cons e es ih =>
    have hstep : (s.releaseLate k e).returnEach es = (s.returnEach (e :: es)).modCtx k (Context.late 1) := by
      rw [State.releaseLate_eq, State.returnEach_modCtx]
      rfl
    have hlate : Context.late es.length ∘ Context.late 1 = Context.late (e :: es).length := by
      funext c
      rw [Function.comp, Context.late_late, List.length_cons, Nat.add_comm]
    rw [List.foldl_cons, ih, hstep, State.modCtx_comp, hlate]

theorem State.releaseBeyond_eq (s : State) (k : Nat) (x : Byte) (q : Nat) :
    s.releaseBeyond k x q = (s.returnEach (beyond x q (s.ctx k).playout)).modCtx k (Context.release x q) := by
  rw [State.releaseBeyond, State.releaseEach_eq, State.returnEach_modCtx, State.modCtx_comp]
  refine State.modCtx_congr _ _ ?_
  rw [Function.comp, (s.returnEach_refill _).ctx]
  rfl

/-- R128: an insertion takes the blocks and puts one new record in place of the context's. -/
theorem State.insertEntry_eq (s : State) (k : Nat) (e : PlayEntry) :
    s.insertEntry k e = (s.takeBlocks e.blocks).modCtx k (Context.insert e) := rfl

theorem State.offer_of_unset {s : State} {k : Nat} (h : (s.ctx k).expected = none) (e : PlayEntry) :
    s.offer k e = (s.takeBlocks e.blocks).modCtx k fun c =>
      (c.expect (e.seq - BitVec.ofNat 8 c.cfg.d)).insert e := by
  have hoffer : s.offer k e =
      (s.modCtx k fun c => c.expect (e.seq - BitVec.ofNat 8 c.cfg.d)).insertEntry k e := by
    simp only [State.offer, h]; rfl
  rw [hoffer, State.insertEntry_eq, State.takeBlocks_modCtx, State.modCtx_comp]
  rfl

section
variable {s : State} {k : Nat} {x : Byte} {e : PlayEntry}

theorem State.offer_of_late (h : (s.ctx k).expected = some x)
    (hlate : 128 ≤ distance x e.seq ∨ ∃ o ∈ (s.ctx k).playout, o.seq = e.seq) :
    s.offer k e = s.modCtx k (Context.late 1) := by
  simp only [State.offer, h]
  exact if_pos (by simpa using hlate)

theorem State.offer_of_near (h : (s.ctx k).expected = some x) (hnew : ∀ o ∈ (s.ctx k).playout, o.seq ≠ e.seq)
    (hnear : distance x e.seq < (s.ctx k).cfg.q) (hearly : distance x e.seq < 128) :
    s.offer k e = (s.takeBlocks e.blocks).modCtx k (Context.insert e) := by
  simp only [State.offer, h]
  rw [if_neg (by simpa [hearly] using hnew), if_pos hnear, State.insertEntry_eq]

/-- R129: the record once the stream has moved ahead of the queue. -/
def Context.catchUp (e : PlayEntry) (c : Context) : Context :=
  let y := e.seq - BitVec.ofNat 8 (c.cfg.q - 1)
  ((c.expect y).release y c.cfg.q).insert e

theorem State.offer_of_far (h : (s.ctx k).expected = some x) (hnew : ∀ o ∈ (s.ctx k).playout, o.seq ≠ e.seq)
    (hfar : (s.ctx k).cfg.q ≤ distance x e.seq) (hearly : distance x e.seq < 128) :
    s.offer k e = ((s.returnEach (beyond (e.seq - BitVec.ofNat 8 ((s.ctx k).cfg.q - 1)) (s.ctx k).cfg.q
      (s.ctx k).playout)).takeBlocks e.blocks).modCtx k (Context.catchUp e) := by
  have hoffer : s.offer k e = s.catchUp k e := by
    simp only [State.offer, h]
    rw [if_neg (by simpa [hearly] using hnew), if_neg hfar.not_gt]
  generalize hy : e.seq - BitVec.ofNat 8 ((s.ctx k).cfg.q - 1) = y
  have hcatch : s.catchUp k e = ((s.modCtx k (Context.expect y)).releaseBeyond k y (s.ctx k).cfg.q).insertEntry k e := by
    rw [← hy]; rfl
  have hplayout : ((s.modCtx k (Context.expect y)).ctx k).playout = (s.ctx k).playout := by
    rw [State.modCtx, State.ctx_setCtx]
    split <;> rfl
  rw [hoffer, hcatch, State.releaseBeyond_eq, hplayout, State.returnEach_modCtx, State.insertEntry_eq, State.modCtx_comp,
    State.takeBlocks_modCtx, State.modCtx_comp]
  refine State.modCtx_congr _ _ ?_
  rw [((s.returnEach_refill _).trans (State.takeBlocks_refill _ _)).ctx, Context.catchUp, hy]
  rfl

end

end Sys2Proof.Machine

namespace Sys2Proof.Machine

/-! ### The law of a queue through an arrival, an answer and a lowered Q (R125) -/

section
variable {x y : Byte} {q n : Nat} {e : PlayEntry} {l : List PlayEntry}

theorem ordered_within (h : Ordered x l) (y : Byte) (q : Nat) : Ordered x (within y q l) := h.sublist List.filter_sublist

/-- R128: a new frame within Q is inserted into its place. -/
theorem playoutOrdered_insert (h : playoutOrdered q (some x) l) (hnew : ∀ o ∈ l, o.seq ≠ e.seq) (hq : distance x e.seq < q) :
    playoutOrdered q (some x) (insertByDistance x e l) := by
  obtain ⟨hord, hlt⟩ := h
  refine ⟨ordered_insertByDistance hord hnew, fun o ho => ?_⟩
  rcases mem_insertByDistance.mp ho with rfl | ho
  · exact hq
  · exact hlt o ho

/-- Where expected moves on by `n`, the entries within `q` of it are those `n` or more away before, and `n` nearer after. -/
theorem within_moved (h : ∀ o ∈ l, distance x o.seq < q) (hn : n < 128) (hq : q ≤ 128) :
    within (x + BitVec.ofNat 8 n) q l = l.filter (fun o => decide (n ≤ distance x o.seq)) ∧
      ∀ o ∈ l, n ≤ distance x o.seq → distance (x + BitVec.ofNat 8 n) o.seq = distance x o.seq - n := by
  have hshift : ∀ o ∈ l, distance (x + BitVec.ofNat 8 n) o.seq =
      if n ≤ distance x o.seq then distance x o.seq - n else distance x o.seq + 256 - n := by
    intro o ho
    have := h o ho
    have := distance_lt x o.seq
    rw [distance_add x o.seq (by omega)]
    split <;> omega
  refine ⟨List.filter_congr fun o ho => ?_, fun o ho hge => by rw [hshift o ho, if_pos hge]⟩
  have := h o ho
  rw [hshift o ho]
  refine decide_eq_decide.mpr ?_
  split <;> omega

/-- R129: a frame from Q to 127 ahead moves expected on to put itself last. -/
theorem playoutOrdered_catchUp (h : playoutOrdered q (some x) l) (hnew : ∀ o ∈ l, o.seq ≠ e.seq) (hq : 2 ≤ q) (hq' : q ≤ 8)
    (hfar : q ≤ distance x e.seq) (hearly : distance x e.seq < 128) :
    playoutOrdered q (some (e.seq - BitVec.ofNat 8 (q - 1)))
      (insertByDistance (e.seq - BitVec.ofNat 8 (q - 1)) e (within (e.seq - BitVec.ofNat 8 (q - 1)) q l)) := by
  obtain ⟨hord, hlt⟩ := h
  have hlast : distance (e.seq - BitVec.ofNat 8 (q - 1)) e.seq = q - 1 := distance_sub_self _ (by omega)
  have hmoved := sub_eq_add_distance x e.seq (n := q - 1) (by omega)
  refine playoutOrdered_insert ⟨?order, fun o ho => (mem_within.mp ho).2⟩
    (fun o ho => hnew o (mem_within.mp ho).1) (by omega)
  rw [hmoved]
  obtain ⟨hwithin, hshift⟩ := within_moved hlt (n := distance x e.seq - (q - 1)) (by omega) (by omega)
  rw [hwithin]
  refine Ordered.shift (hord.sublist List.filter_sublist) (n := distance x e.seq - (q - 1)) fun o ho => ?_
  obtain ⟨ho, hge⟩ := List.mem_filter.mp ho
  exact ⟨by simpa using hge, hshift o ho (by simpa using hge)⟩

/-- R130: where expected advances by 1, the entry at distance 0 is the only one to leave. -/
theorem playoutOrdered_takeFront (h : playoutOrdered q (some x) l) :
    playoutOrdered q (some (x + 1)) (l.filter fun o => decide (o.seq ≠ x)) := by
  obtain ⟨hord, hlt⟩ := h
  have hone : ∀ o ∈ l.filter (fun o => decide (o.seq ≠ x)), o ∈ l ∧ 1 ≤ distance x o.seq := by
    intro o ho
    obtain ⟨ho, hne⟩ := List.mem_filter.mp ho
    exact ⟨ho, Nat.one_le_iff_ne_zero.mpr (mt distance_eq_zero.mp (by simpa using hne))⟩
  have hstep : ∀ o ∈ l.filter (fun o => decide (o.seq ≠ x)), 1 ≤ distance x o.seq ∧ distance (x + 1) o.seq = distance x o.seq - 1 := by
    intro o ho
    have hge := (hone o ho).2
    have hmoved := distance_add x o.seq (n := 1) (by decide)
    have := distance_lt x o.seq
    exact ⟨hge, hmoved.trans (by omega)⟩
  refine ⟨Ordered.shift (hord.sublist List.filter_sublist) hstep, fun o ho => ?_⟩
  have := hlt o (hone o ho).1
  have := (hstep o ho).2
  omega

/-- R130: in an ordered queue the entry at distance 0 is the first, so that an answer takes its blocks and no others. -/
theorem blocksOf_takeFront (h : Ordered x l) :
    blocksOf (l.filter fun o => decide (o.seq ≠ x)) +
      ((l.find? fun o => decide (o.seq = x)).map (·.blocks)).getD 0 = blocksOf l := by
  cases l with
  | nil => rfl
  | cons a l =>
    obtain ⟨hal, -⟩ := List.pairwise_cons.mp h
    have htail : ∀ o ∈ l, o.seq ≠ x := fun o ho e => by
      have := hal o ho
      rw [e, distance_eq_zero.mpr rfl] at this
      omega
    have hkeep : l.filter (fun o => decide (o.seq ≠ x)) = l := List.filter_eq_self.mpr fun o ho => by simpa using htail o ho
    have hfind : l.find? (fun o => decide (o.seq = x)) = none := List.find?_eq_none.mpr fun o ho => by simpa using htail o ho
    by_cases ha : a.seq = x
    · rw [List.filter_cons_of_neg (by simpa using ha), hkeep, List.find?_cons_of_pos (by simpa using ha)]
      simp [Nat.add_comm]
    · rw [List.filter_cons_of_pos (by simpa using ha), hkeep, List.find?_cons_of_neg (by simpa using ha), hfind]
      simp

end

/-! ### Arrivals and an accepted MODIFY as events -/

section
variable {c : Context} {e : PlayEntry} {free : Nat}

theorem Context.late_bounded (n : Nat) (h : ∀ m ∈ c.counters.list, m ≤ 65535) : ∀ m ∈ (c.late n).counters.list, m ≤ 65535 := by
  rw [Counters.bounded_iff] at h ⊢
  unfold Context.late
  split
  · exact h
  · exact ⟨h.1, h.2.1, h.2.2.1, h.2.2.2.1, h.2.2.2.2.1, Nat.min_le_right .., h.2.2.2.2.2.2⟩

theorem Context.touch_late (n : Nat) : c.Touch (c.late n) := ⟨rfl, rfl, rfl, id, id, Context.late_bounded n⟩

theorem Context.requeue_first (hrequest : e.request ≤ 3) (hblocks : e.blocks ≤ free) (h : c.expected = none) :
    c.Requeue ((c.expect (e.seq - BitVec.ofNat 8 c.cfg.d)).insert e) free (free - e.blocks) := by
  refine ⟨rfl, rfl, id, id, id, fun hplayout o ho => ?_, fun hq hq' hd hord => ⟨⟨hq, hq', hd⟩, ?_, ?_⟩⟩
  · rcases mem_insertByDistance.mp ho with rfl | ho
    · exact hrequest
    · exact hplayout o ho
  · have hempty : c.playout = [] := by rwa [h] at hord
    have hin : distance (e.seq - BitVec.ofNat 8 c.cfg.d) e.seq < c.cfg.q := by
      rw [distance_sub_self _ (by omega)]; exact hd
    refine playoutOrdered_insert ?_ ?_ hin
    · simp [playoutOrdered, Context.expect, hempty]
    · simp [Context.expect, hempty]
  · have := blocksOf_insertByDistance (e.seq - BitVec.ofNat 8 c.cfg.d) e c.playout
    simp only [Context.blocksHeld_eq, Context.insert, Context.expect, Option.getD_some]
    omega

theorem Context.requeue_near {x : Byte} (hrequest : e.request ≤ 3) (hblocks : e.blocks ≤ free) (h : c.expected = some x)
    (hnew : ∀ o ∈ c.playout, o.seq ≠ e.seq) (hnear : distance x e.seq < c.cfg.q) :
    c.Requeue (c.insert e) free (free - e.blocks) := by
  have hinsert : (c.insert e).playout = insertByDistance x e c.playout := by simp [Context.insert, h]
  refine ⟨rfl, rfl, id, id, id, fun hplayout o ho => ?_, fun hq hq' hd hord => ⟨⟨hq, hq', hd⟩, ?_, ?_⟩⟩
  · rw [hinsert] at ho
    rcases mem_insertByDistance.mp ho with rfl | ho
    · exact hrequest
    · exact hplayout o ho
  · rw [h] at hord
    rw [hinsert, show (c.insert e).expected = some x from h]
    exact playoutOrdered_insert hord hnew hnear
  · have := blocksOf_insertByDistance x e c.playout
    rw [Context.blocksHeld_eq, Context.blocksHeld_eq, hinsert]
    omega

theorem Context.requeue_far {x : Byte} (hrequest : e.request ≤ 3) (hblocks : e.blocks ≤ free) (h : c.expected = some x)
    (hnew : ∀ o ∈ c.playout, o.seq ≠ e.seq) (hfar : c.cfg.q ≤ distance x e.seq) (hearly : distance x e.seq < 128) :
    c.Requeue (c.catchUp e) free
      (free + blocksOf (beyond (e.seq - BitVec.ofNat 8 (c.cfg.q - 1)) c.cfg.q c.playout) - e.blocks) := by
  have hplayout : (c.catchUp e).playout = insertByDistance (e.seq - BitVec.ofNat 8 (c.cfg.q - 1)) e
      (within (e.seq - BitVec.ofNat 8 (c.cfg.q - 1)) c.cfg.q c.playout) := rfl
  refine ⟨rfl, rfl, id, id, fun hbound => Context.late_bounded (c := c) _ hbound, fun hrequests o ho => ?_,
    fun hq hq' hd hord => ⟨⟨hq, hq', hd⟩, ?_, ?_⟩⟩
  · rw [hplayout] at ho
    rcases mem_insertByDistance.mp ho with rfl | ho
    · exact hrequest
    · exact hrequests o (mem_within.mp ho).1
  · rw [h] at hord
    rw [hplayout]
    exact playoutOrdered_catchUp hord hnew hq hq' hfar hearly
  · have hinsert := blocksOf_insertByDistance (e.seq - BitVec.ofNat 8 (c.cfg.q - 1)) e
      (within (e.seq - BitVec.ofNat 8 (c.cfg.q - 1)) c.cfg.q c.playout)
    have hsum := blocksOf_within_add (e.seq - BitVec.ofNat 8 (c.cfg.q - 1)) c.cfg.q c.playout
    rw [Context.blocksHeld_eq, Context.blocksHeld_eq, hplayout]
    omega

end

/-- R126 to R129: an arrival is an event of its context's queue. -/
theorem Run.offer {s : State} {k : Nat} {e : PlayEntry} (hlive : ∃ p ∈ s.tags, p.2 = k) (hrequest : e.request ≤ 3)
    (hblocks : e.blocks ≤ s.pool.free) : Run s (s.offer k e) := by
  cases hx : (s.ctx k).expected with
  | none =>
    rw [State.offer_of_unset hx, State.modCtx, (s.takeBlocks_refill _).ctx]
    refine (Event.requeue s _ k _ (s.takeBlocks_refill _) ?_ (.inr hlive)).run
    rw [State.takeBlocks_free]
    exact Context.requeue_first hrequest hblocks hx
  | some x =>
    by_cases hlate : 128 ≤ distance x e.seq ∨ ∃ o ∈ (s.ctx k).playout, o.seq = e.seq
    · rw [State.offer_of_late hx hlate]
      exact (Event.touch s k _ (Context.touch_late 1)).run
    · obtain ⟨hearly, hnew⟩ := not_or.mp hlate
      have hnew' : ∀ o ∈ (s.ctx k).playout, o.seq ≠ e.seq := fun o ho heq => hnew ⟨o, ho, heq⟩
      by_cases hnear : distance x e.seq < (s.ctx k).cfg.q
      · rw [State.offer_of_near hx hnew' hnear (Nat.lt_of_not_le hearly), State.modCtx, (s.takeBlocks_refill _).ctx]
        refine (Event.requeue s _ k _ (s.takeBlocks_refill _) ?_ (.inr hlive)).run
        rw [State.takeBlocks_free]
        exact Context.requeue_near hrequest hblocks hx hnew' hnear
      · have hfill := (s.returnEach_refill (beyond (e.seq - BitVec.ofNat 8 ((s.ctx k).cfg.q - 1)) (s.ctx k).cfg.q
          (s.ctx k).playout)).trans (State.takeBlocks_refill _ e.blocks)
        rw [State.offer_of_far hx hnew' (Nat.le_of_not_lt hnear) (Nat.lt_of_not_le hearly), State.modCtx, hfill.ctx]
        refine (Event.requeue s _ k _ hfill ?_ (.inr hlive)).run
        rw [State.takeBlocks_free, State.returnEach_free]
        exact Context.requeue_far hrequest hblocks hx hnew' (Nat.le_of_not_lt hnear) (Nat.lt_of_not_le hearly)

end Sys2Proof.Machine

namespace Sys2Proof.Machine

/-! ### The captured configuration (R89, R97) -/

theorem field8_le (m : Memory) (off : Nat) : field8 m off ≤ 255 := Nat.le_of_lt_succ (BitVec.isLt _)

theorem field16_le (m : Memory) (off : Nat) : field16 m off ≤ 65535 := by
  have := field8_le m off
  have := field8_le m (off + 1)
  rw [field16]
  omega

theorem readAdjustable_inRange {c : Captured} (m : Memory) (k : Nat) (h : c.inRange) : (readAdjustable m k c).inRange := by
  obtain ⟨hin, hout, htag, -⟩ := h
  have htOn := field8_le m (descriptor k + 0x14)
  have hmargin := field8_le m (descriptor k + 0x19)
  refine ⟨hin, hout, htag, ?_⟩
  simp only [readAdjustable]
  omega

theorem readAdjustable_tmpl (m : Memory) (k : Nat) (c : Captured) : (readAdjustable m k c).tmpl.length = 8 := by
  simp [readAdjustable]

/-- R97: the clamps put Q in 2..8 and D below it. -/
theorem readAdjustable_q (m : Memory) (k : Nat) (c : Captured) :
    2 ≤ (readAdjustable m k c).q ∧ (readAdjustable m k c).q ≤ 8 ∧ (readAdjustable m k c).d < (readAdjustable m k c).q := by
  simp only [readAdjustable]
  omega

theorem readCaptured_inRange (m : Memory) (k : Nat) : (readCaptured m k).inRange := by
  have hin := field16_le m (descriptor k + 0x0C)
  have hout := field16_le m (descriptor k + 0x0E)
  have htag := field16_le m (descriptor k + 0x10)
  refine readAdjustable_inRange m k ⟨hin, hout, htag, ?_⟩
  simp [Captured.cleared]

/-! ### An accepted MODIFY (R99, R100) -/

/-- The record once the adjustable fields are replaced. -/
def Context.adjust (m : Memory) (k : Nat) (c : Context) : Context := { c with cfg := readAdjustable m k c.cfg }

/-- The entries a MODIFY releases: those a lowered Q no longer holds (R100). -/
def State.modifyReleases (s : State) (k : Nat) : List PlayEntry :=
  match (s.ctx k).expected with
  | none => []
  | some x =>
    if (readAdjustable s.shadow k (s.ctx k).cfg).q < (s.ctx k).cfg.q then
      beyond x (readAdjustable s.shadow k (s.ctx k).cfg).q (s.ctx k).playout
    else []

/-- The record an accepted MODIFY leaves. -/
def Context.modified (m : Memory) (k : Nat) (c : Context) : Context :=
  match c.expected with
  | none => c.adjust m k
  | some x => if (c.adjust m k).cfg.q < c.cfg.q then (c.adjust m k).release x (c.adjust m k).cfg.q else c.adjust m k

theorem State.modifyEffect_eq (s : State) (k : Nat) :
    s.modifyEffect k = (s.returnEach (s.modifyReleases k)).setCtx k ((s.ctx k).modified s.shadow k) := by
  have hset : s.modifyEffect k = match (s.ctx k).expected with
      | none => s.modCtx k (Context.adjust s.shadow k)
      | some x =>
        if ((s.ctx k).adjust s.shadow k).cfg.q < (s.ctx k).cfg.q then
          (s.modCtx k (Context.adjust s.shadow k)).releaseBeyond k x ((s.ctx k).adjust s.shadow k).cfg.q
        else s.modCtx k (Context.adjust s.shadow k) := by
    simp only [State.modifyEffect]
    rfl
  rw [hset, State.modifyReleases, Context.modified]
  cases (s.ctx k).expected with
  | none => rfl
  | some x =>
    dsimp only
    split
    · rename_i hq
      rw [if_pos (show (readAdjustable s.shadow k (s.ctx k).cfg).q < (s.ctx k).cfg.q from hq)]
      have hplayout : ((s.modCtx k (Context.adjust s.shadow k)).ctx k).playout = (s.ctx k).playout := by
        rw [State.modCtx, State.ctx_setCtx]
        split <;> rfl
      rw [State.releaseBeyond_eq, hplayout, State.returnEach_modCtx, State.modCtx_comp, State.modCtx,
        (s.returnEach_refill _).ctx]
      rfl
    · rename_i hq
      rw [if_neg (show ¬ (readAdjustable s.shadow k (s.ctx k).cfg).q < (s.ctx k).cfg.q from hq)]
      rfl

theorem Context.requeue_modified (c : Context) (m : Memory) (k free : Nat) :
    c.Requeue (c.modified m k) free (free + blocksOf (match c.expected with
      | none => []
      | some x => if (readAdjustable m k c.cfg).q < c.cfg.q then beyond x (readAdjustable m k c.cfg).q c.playout else [])) := by
  have hplain : ∀ d : Context, d = { c.adjust m k with playout := d.playout, counters := d.counters } →
      ((∀ n ∈ c.counters.list, n ≤ 65535) → ∀ n ∈ d.counters.list, n ≤ 65535) → (∀ e ∈ d.playout, e ∈ c.playout) →
      ∀ free', (playoutOrdered c.cfg.q c.expected c.playout →
        playoutOrdered (readAdjustable m k c.cfg).q c.expected d.playout ∧
          free' + blocksOf d.playout = free + blocksOf c.playout) → c.Requeue d free free' := by
    intro d hd hcounters hplayout free' hqueue
    rw [hd]
    exact ⟨rfl, rfl, readAdjustable_inRange m k, fun _ => (readAdjustable_tmpl m k c.cfg).le, hcounters,
      fun h e he => h e (hplayout e he), fun _ _ _ hord => ⟨readAdjustable_q m k c.cfg, hqueue hord⟩⟩
  rw [Context.modified]
  cases hx : c.expected with
  | none =>
    refine hplain (c.adjust m k) rfl id (fun _ h => h) _ fun hord => ?_
    have hempty : c.playout = [] := by rwa [hx] at hord
    simp [Context.adjust, playoutOrdered, hx, hempty]
  | some x =>
    dsimp only
    have hcfg : (c.adjust m k).cfg = readAdjustable m k c.cfg := rfl
    rw [hcfg]
    split
    · refine hplain ((c.adjust m k).release x (readAdjustable m k c.cfg).q) rfl (Context.late_bounded (c := c) _)
        (fun e he => (mem_within.mp he).1) _ fun hord => ?_
      rw [hx] at hord ⊢
      refine ⟨⟨ordered_within hord.1 _ _, fun e he => (mem_within.mp he).2⟩, ?_⟩
      have := blocksOf_within_add x (readAdjustable m k c.cfg).q c.playout
      have hplayout : ((c.adjust m k).release x (readAdjustable m k c.cfg).q).playout =
        within x (readAdjustable m k c.cfg).q c.playout := rfl
      rw [hplayout]
      omega
    · rename_i hq
      refine hplain (c.adjust m k) rfl id (fun _ h => h) _ fun hord => ?_
      rw [hx] at hord ⊢
      exact ⟨⟨hord.1, fun e he => (hord.2 e he).trans_le (Nat.le_of_not_lt hq)⟩, rfl⟩

theorem Run.modifyEffect {s : State} {k : Nat} (h : (s.ctx k).state = .active) : Run s (s.modifyEffect k) := by
  rw [State.modifyEffect_eq]
  refine (Event.requeue s _ k _ (s.returnEach_refill _) ?_ (.inl h)).run
  rw [State.returnEach_free]
  exact Context.requeue_modified (s.ctx k) s.shadow k s.pool.free

/-! ### Grants to the queue of words, and what every grant shares (R148, R153, R155) -/

section
variable (s : State)

theorem Run.drainGrant : Run s s.drainGrant := by
  unfold State.drainGrant
  split
  · exact .refl
  · rename_i w rest hentries
    exact (Event.port s (Memory.putAll s.mem _) s.shadow rest { s.mpa with drainCount := 0 } s.readData s.openReads s.pending
      (Memory.wf_putAll _ _) id (by simp [hentries]) (fun _ => Nat.zero_le _) id).run

theorem Run.countMasterGrant : Run s s.countMasterGrant :=
  (Event.port s s.mem s.shadow s.pwq.entries _ s.readData s.openReads s.pending id id le_rfl
    (fun _ => Nat.min_le_left ..) (fun _ => Nat.min_le_left ..)).run

theorem Run.writeThrough (cells : List (Nat × Byte)) : Run s (s.writeThrough cells) :=
  (Event.port s (Memory.putAll s.mem _) s.shadow _ _ s.readData s.openReads s.pending (Memory.wf_putAll _ _) id
    ((List.length_filter_le ..).trans (List.length_map ..).le) (fun _ => Nat.min_le_left ..) (fun _ => Nat.min_le_left ..)).run

theorem Run.snoop (offs : List (Nat × Byte)) : Run s (s.snoop offs) :=
  (Event.port s s.mem (Memory.putAll s.shadow offs) s.pwq.entries s.mpa s.readData s.openReads s.pending id
    (Memory.wf_putAll _ _) le_rfl id id).run

theorem State.noteRead_eq (a n : Nat) :
    s.noteRead a n = { s with openReads := if a + n ≤ s.fitted then s.openReads else s.openReads + 1 } := by
  unfold State.noteRead
  split <;> rfl

theorem Run.fetchCounted (a n : Nat) : Run s (s.countFetchGrant.noteRead a n) := by
  rw [State.noteRead_eq]
  exact (Event.port s s.mem s.shadow s.pwq.entries { s.mpa with fetchCount := 0 } s.readData _ s.pending id id le_rfl id
    fun _ => Nat.zero_le _).run

theorem Run.returned (data : List Byte) (a n : Nat) : Run s (s.returned data a n) := by
  rw [State.returned, State.noteRead_eq]
  exact (Event.port s s.mem s.shadow s.pwq.entries s.mpa data _ s.pending id id le_rfl id id).run

end

/-! ### Grants to the fetch unit (R115 to R118) -/

section
variable {s : State} {f : Fetch}

theorem Run.fetchGoesOn (hf : s.ffu.buffer = some f) (phase : FetchPhase) : Run s (s.fetchGoesOn f phase) :=
  (Event.fetchUnit s _ fun h => Ffu.phase_lawful h hf phase).run

theorem Run.fetchDone (hf : s.ffu.buffer = some f) : Run s (s.fetchDone f) :=
  (Event.fetchUnit s _ fun h => Ffu.finish_lawful h hf).run

theorem Run.dispose (s : State) (tag length : Nat) (frame : List Byte) : Run s (s.dispose tag length frame) := by
  unfold State.dispose
  split
  · exact .refl
  · rename_i k hk
    obtain ⟨p, hp, hpk⟩ := Option.map_eq_some_iff.mp hk
    have hlive : ∃ p ∈ s.tags, p.2 = k := ⟨p, List.mem_of_find?_eq_some hp, hpk⟩
    have hreject : ∀ (s : State) detail, Run s (s.reject k detail) := fun s detail =>
      (Run.count s k (by simp +contextual [Counters.bounded_iff, satInc_le])).trans (Run.noticeRejected ..)
    refine (Run.count s k (f := fun n => { n with received := satInc n.received })
      (by simp +contextual [Counters.bounded_iff, satInc_le])).trans ?_
    split
    · exact hreject _ _
    · dsimp only
      split
      · exact hreject _ _
      · rename_i hfree
        exact Run.offer hlive (by simp only [readEntry, byte1Request]; omega) (Nat.le_of_not_lt hfree)

theorem Run.headerTaken (hf : s.ffu.buffer = some f) (bytes : List Byte) : Run s (s.headerTaken f bytes) := by
  simp only [State.headerTaken]
  split
  · exact Run.fetchDone hf
  · split
    · exact Run.fetchGoesOn hf _
    · split
      · exact Run.fetchDone hf
      · exact (Run.fetchDone hf).trans (Run.dispose ..)

theorem Run.bodyTaken (hf : s.ffu.buffer = some f) (length tag next : Nat) (got : List Byte) :
    Run s (s.bodyTaken f length tag next got) := by
  unfold State.bodyTaken
  split
  · exact Run.fetchGoesOn hf _
  · split
    · exact Run.fetchDone hf
    · exact (Run.fetchDone hf).trans (Run.dispose ..)

theorem State.fetchCounted_buffer (s : State) (a n : Nat) : (s.countFetchGrant.noteRead a n).ffu = s.ffu := by
  rw [State.noteRead_eq]; rfl

theorem Run.fetchGrant (s : State) : Run s s.fetchGrant := by
  unfold State.fetchGrant
  split
  · exact .refl
  · rename_i f hf
    split
    · exact (Run.fetchCounted s _ _).trans (Run.headerTaken (by rw [State.fetchCounted_buffer, hf]) _)
    · exact (Run.fetchCounted s _ _).trans (Run.bodyTaken (by rw [State.fetchCounted_buffer, hf]) ..)

end

/-! ### Header-word events (R113, R114, R121) -/

section
variable (s : State) (slot : Nat)

theorem Run.headerValid : Run s (s.headerValid slot) := by
  unfold State.headerValid
  split
  · exact .refl
  · rename_i hw
    split
    · rename_i hr
      exact (Event.fetchUnit s _ fun h => Ffu.restart_lawful h (Ffu.hasReading_iff.mp hr)).run
    · rename_i hr
      split
      · rename_i hlen
        exact (Event.fetchUnit s _ fun h => Ffu.append_lawful h hlen
          (Ffu.slot_fresh (mt Ffu.hasWaiting_iff.mpr hw) (mt Ffu.hasReading_iff.mpr hr))).run
      · rename_i hlen
        have hne : s.ffu.queue ≠ [] := by
          intro h
          simp [h] at hlen
        unfold State.noticeOverrun
        split
        · exact .refl
        · exact (Event.fetchUnit s _ fun h => Ffu.overrun_lawful h hne).run.trans (Run.placeNotice _ _ _ _ rfl)

theorem Run.headerInvalid : Run s (s.headerInvalid slot) := by
  unfold State.headerInvalid
  split
  · rename_i hw
    exact (Event.fetchUnit s _ fun h => Ffu.dropWaiting_lawful h (Ffu.hasWaiting_iff.mp hw)).run
  · split
    · rename_i hr
      exact (Event.fetchUnit s _ fun h => Ffu.stop_lawful h (Ffu.hasReading_iff.mp hr)).run
    · exact .refl

theorem Run.mobileIngress (addr : Nat) (cells : List (Nat × Byte)) : Run s (s.mobileIngress addr cells) := by
  simp only [State.mobileIngress]
  split
  · exact .refl
  · split
    · exact Run.headerValid ..
    · exact Run.headerInvalid ..

end

end Sys2Proof.Machine

namespace Sys2Proof.Machine

/-! ### Completions (R104, R138, R141) -/

section
variable {s : State} {k : Nat} {kind : JobKind}

theorem Context.freed_of_ne {c : Context} (h : c.state ≠ .closing) : c.freed = { c with runningJobs := c.runningJobs - 1 } := by
  simp [Context.freed, h]

/-- A lane that becomes free under a context that is not CLOSING. -/
theorem State.freeLane_eq_freed (h : (s.ctx k).state ≠ .closing) : s.freeLane k kind = s.freed k kind := by
  rw [State.freed, Context.freed_of_ne h]
  rfl

/-- R104: what the end of the drain adds to a completion. -/
theorem State.freeLane_drainEnd :
    (s.freeLane k kind).drainEnd k =
      if (s.ctx k).state = .closing ∧ (s.ctx k).runningJobs ≤ 1 then
        ((s.freed k kind).ctxStatus k .done (s.ctx k).closeTag (s.ctx k).closeCode).noticeClosed k
      else s.freed k kind := by
  by_cases hclosing : (s.ctx k).state = .closing
  · have hk : k < s.ctxs.length := s.lt_length_of_state_ne (by simp [hclosing])
    have hctx : (s.freeLane k kind).ctx k = { s.ctx k with runningJobs := (s.ctx k).runningJobs - 1 } :=
      s.ctx_modCtx_self (fun c => { c with runningJobs := c.runningJobs - 1 }) hk
    have hzero : (s.ctx k).runningJobs - 1 = 0 ↔ (s.ctx k).runningJobs ≤ 1 := by omega
    simp only [State.drainEnd, hctx, hclosing, hzero, true_and]
    by_cases hlast : (s.ctx k).runningJobs ≤ 1
    · have hset : (s.freeLane k kind).modCtx k (fun c => { c with state := .closed }) = s.freed k kind := by
        rw [State.modCtx, hctx, State.freed, Context.freed, if_pos ⟨hclosing, hlast⟩]
        simp [State.setCtx, State.freeLane, State.modCtx]
      rw [if_pos hlast, if_pos hlast, hset]
    · rw [if_neg hlast, if_neg hlast, State.freed, Context.freed, if_neg (by simp [hlast])]
      rfl
  · have hstate : ((s.freeLane k kind).ctx k).state = (s.ctx k).state := by
      rw [State.freeLane, State.modCtx, State.ctx_setCtx]
      split <;> rfl
    rw [State.drainEnd, if_neg (by simp [hstate, hclosing]), if_neg (by simp [hclosing]), State.freeLane_eq_freed hclosing]

theorem State.completeEncode_of_active (h : (s.ctx k).state = .active) :
    s.completeEncode k = (s.setEdges k fun e => { e with uplinkMissed := false }).freed k .encode := by
  have hk := s.lt_length_of_active h
  have hctx : (s.freeLane k .encode).ctx k = { s.ctx k with runningJobs := (s.ctx k).runningJobs - 1 } :=
    s.ctx_modCtx_self (fun c => { c with runningJobs := c.runningJobs - 1 }) hk
  have hedges : (s.setEdges k fun e => { e with uplinkMissed := false }).ctx k =
      { s.ctx k with edges := { (s.ctx k).edges with uplinkMissed := false } } :=
    s.ctx_modCtx_self (fun c => { c with edges := { c.edges with uplinkMissed := false } }) hk
  rw [State.completeEncode, if_pos (by rw [hctx, h]), State.freed, hedges, Context.freed_of_ne (by simp [h]),
    State.setEdges, State.modCtx, hctx]
  simp [State.setCtx, State.freeLane, State.modCtx, State.setEdges]

theorem State.completeEncode_of_not_active (h : (s.ctx k).state ≠ .active) :
    s.completeEncode k = (s.freeLane k .encode).drainEnd k := by
  have hstate : ((s.freeLane k .encode).ctx k).state = (s.ctx k).state := by
    rw [State.freeLane, State.modCtx, State.ctx_setCtx]
    split <;> rfl
  exact if_neg (by rwa [hstate])

/-- The end of the drain adds no more than a status word and a notice. -/
theorem Run.drainEnd {t : State} (h : Event t (s.freed k kind)) : Run t ((s.freeLane k kind).drainEnd k) := by
  rw [State.freeLane_drainEnd]
  split
  · exact (h.run.trans (Run.ctxStatus ..)).trans (Run.noticeClosed ..)
  · exact h.run

theorem State.workingEncode_some {j : EncodeJob} (h : s.workingEncode k = some j) :
    Running.encode j ∈ s.engine.running ∧ j.ctx = k ∧ j.waiting = false := by
  obtain ⟨r, hr, hj⟩ := List.exists_of_findSome?_eq_some h
  cases r with
  | encode i =>
    simp only [Option.ite_none_right_eq_some, Option.some.injEq] at hj
    obtain ⟨⟨hctx, hwaiting⟩, rfl⟩ := hj
    exact ⟨hr, hctx, hwaiting⟩
  | decode i => cases hj

theorem State.runningDecode_some {j : DecodeJob} (h : s.runningDecode k = some j) :
    Running.decode j ∈ s.engine.running ∧ j.ctx = k := by
  obtain ⟨r, hr, hj⟩ := List.exists_of_findSome?_eq_some h
  cases r with
  | encode i => cases hj
  | decode i =>
    simp only [Option.ite_none_right_eq_some, Option.some.injEq] at hj
    obtain ⟨hctx, rfl⟩ := hj
    exact ⟨hr, hctx⟩

theorem Run.completeEncode {j : EncodeJob} (hj : Running.encode j ∈ s.engine.running) (hwaiting : j.waiting = false) :
    Run s (s.completeEncode j.ctx) := by
  by_cases hactive : (s.ctx j.ctx).state = .active
  · rw [State.completeEncode_of_active hactive]
    exact (Run.setEdges s j.ctx _).trans (Event.encodeDone (s.setEdges j.ctx _) j hj hwaiting).run
  · rw [State.completeEncode_of_not_active hactive]
    exact Run.drainEnd (Event.encodeDone s j hj hwaiting)

theorem State.noticeEgressFull_engine (s : State) (k detail : Nat) : (s.noticeEgressFull k detail).engine = s.engine := by
  unfold State.noticeEgressFull
  split <;> simp

theorem Run.handOff {j : EncodeJob} {f : Frame} (hj : Running.encode j ∈ s.engine.running) (hwaiting : j.waiting = false)
    (hactive : (s.ctx j.ctx).state = .active) (hf : (encodeWork j).frame = some f) : Run s (s.handOff j f) := by
  unfold State.handOff
  split
  · refine ((Run.count s j.ctx ?_).trans (Run.noticeEgressFull ..)).trans (Run.completeEncode ?_ hwaiting)
    · simp +contextual [Counters.bounded_iff, satInc_le]
    · rw [State.noticeEgressFull_engine]
      exact hj
  · exact (Event.queued s j f hj hwaiting hactive hf).run

/-- R137: a lane's work ends in the encoder fields and a count, and then in a completion or a hand-off. -/
theorem Run.encodeEnd (s : State) (k : Nat) : Run s (s.encodeEnd k) := by
  unfold State.encodeEnd
  split
  · exact .refl
  · rename_i j hworking
    obtain ⟨hj, rfl, hwaiting⟩ := State.workingEncode_some hworking
    split
    · rename_i hactive
      have hrecord : s.modCtx j.ctx (fun c => { c with
            enc := (encodeWork j).enc, counters := { c.counters with encoded := satInc c.counters.encoded } }) =
          (s.modCtx j.ctx fun c => { c with enc := (encodeWork j).enc }).count j.ctx fun n =>
            { n with encoded := satInc n.encoded } := by
        rw [State.count, State.modCtx_comp]
        rfl
      have hrun : Run s (s.modCtx j.ctx fun c => { c with
          enc := (encodeWork j).enc, counters := { c.counters with encoded := satInc c.counters.encoded } }) := by
        rw [hrecord]
        refine (Event.encoded s j hj).run.trans (Run.count _ _ ?_)
        simp +contextual [Counters.bounded_iff, satInc_le]
      refine hrun.trans ?_
      dsimp only
      split
      · exact Run.completeEncode hj hwaiting
      · rename_i f hf
        refine Run.handOff hj hwaiting ?_ hf
        rw [s.ctx_modCtx_self _ (s.lt_length_of_active hactive)]
        exact hactive
    · exact Run.completeEncode hj hwaiting

theorem Run.decodeEnd (s : State) (k : Nat) : Run s (s.decodeEnd k) := by
  unfold State.decodeEnd
  split
  · exact .refl
  · rename_i j hrunning
    obtain ⟨hj, rfl⟩ := State.runningDecode_some hrunning
    split
    · exact (Event.decoded s j hj ‹_›).run
    · exact Run.drainEnd (Event.decodeDropped s j hj ‹_›)

end

/-! ### Due steps (R134, R152, R162, R169) -/

section
variable {s : State}

/-- The record once the ring writer has told a context of its group's admission (R108, R138, R162). -/
def Context.told (c : Context) : Context :=
  { c with
    counters := { c.counters with sent := satInc c.counters.sent }
    edges :=
      if c.state = .active then { c.edges with egressFull := false, uplinkMissed := false }
      else { c.edges with egressFull := false } }

theorem Context.touch_told (c : Context) : c.Touch c.told :=
  ⟨rfl, rfl, rfl, id, id, by simp +contextual [Context.told, Counters.bounded_iff, satInc_le]⟩

/-- The ring writer's indices once its oldest group is admitted (R159). -/
def State.advancedErw (s : State) : Erw :=
  { s.erw with producer := (s.erw.producer + 1) % s.win.ne, waiting := s.erw.waiting - 1 }

/-- R152, R162: the admission of an egress frame group, its counter and edge flags first. -/
theorem State.enterHead_of_egress {k slot : Nat} {ws : List (Nat × Lanes)} {rest : List Group}
    (hw : s.pwq.waiting = .egress k slot ws :: rest) (hstate : (s.ctx k).state ≠ .closing) :
    s.enterHead = (({ (s.modCtx k Context.told).entered (.egress k slot ws) rest with
      erw := s.advancedErw }).freed k .encode).examineReady := by
  let x : State := { s.entered (.egress k slot ws) rest with erw := s.advancedErw }
  let y := (x.count k fun n => { n with sent := satInc n.sent }).setEdges k fun e => { e with egressFull := false }
  have henter : s.enterHead = (y.completeEncode k).examineReady := by
    simp only [State.enterHead, hw]
    rfl
  have hy : y = x.modCtx k fun c => { c with
      counters := { c.counters with sent := satInc c.counters.sent }, edges := { c.edges with egressFull := false } } := by
    simp only [y, State.count, State.setEdges, State.modCtx_comp]
    rfl
  have hystate : (y.ctx k).state = (s.ctx k).state := by
    rw [hy, State.modCtx, State.ctx_setCtx]
    split <;> rfl
  have hcomplete : y.completeEncode k = (x.modCtx k Context.told).freed k .encode := by
    by_cases hactive : (s.ctx k).state = .active
    · rw [State.completeEncode_of_active (hystate.trans hactive), hy, State.setEdges, State.modCtx_comp]
      refine congrArg (State.freed · k .encode) (State.modCtx_congr _ _ ?_)
      have hx : (x.ctx k).state = .active := hactive
      simp [Context.told, hx]
    · rw [State.completeEncode_of_not_active (by rwa [hystate]), State.freeLane_drainEnd,
        if_neg (by simp [hystate, hstate]), hy]
      refine congrArg (State.freed · k .encode) (State.modCtx_congr _ _ ?_)
      have hx : (x.ctx k).state ≠ .active := hactive
      simp [Context.told, hx]
  rw [henter, hcomplete]
  rfl

theorem Run.enterHead (h : s.dueStep = some .admission) : Run s s.enterHead := by
  obtain ⟨g, rest, hw, ⟨h, -⟩ | ⟨-, hopen, hfit⟩⟩ | ⟨h, -⟩ | ⟨j, h, -⟩ := State.dueStep_cases h
  · cases h
  · cases g with
    | egress k slot ws =>
      have hstate : (s.ctx k).state ≠ .closing := by simpa [State.groupClosing] using hopen
      rw [State.enterHead_of_egress hw hstate]
      have htold : ((s.modCtx k Context.told).ctx k).state ≠ .closing := by
        rw [State.modCtx, State.ctx_setCtx]
        split <;> exact hstate
      exact (Event.touch s k _ (Context.touch_told _)).run.trans (Event.admitEgress (s.modCtx k Context.told) k slot ws rest hw htold hfit).run
    | notice ws =>
      have hnotice := Event.admitNotice s ws rest hw hfit
      simp only [State.enterHead, hw]
      exact hnotice.run
    | status w =>
      have hplain := Event.admitPlain s _ rest hw rfl hfit
      simp only [State.enterHead, hw]
      exact hplain.run
    | indexReset ws =>
      have hplain := Event.admitPlain s _ rest hw rfl hfit
      simp only [State.enterHead, hw]
      exact hplain.run
  · cases h
  · cases h

theorem Run.discardHead (h : s.dueStep = some .discard) : Run s s.discardHead := by
  obtain ⟨g, rest, hw, ⟨-, hclosing⟩ | ⟨h, -⟩⟩ | ⟨h, -⟩ | ⟨j, h, -⟩ := State.dueStep_cases h
  · cases g with
    | egress k slot ws =>
      have hstate : (s.ctx k).state = .closing := by simpa [State.groupClosing] using hclosing
      have hnot : (s.ctx k).state ≠ .active := by simp [hstate]
      rw [State.discardHead, hw]
      refine (congrArg (Run s) (State.completeEncode_of_not_active ?_)).mpr (Run.drainEnd (Event.discard s k slot ws rest hw hstate))
      exact hnot
    | notice | status | indexReset => cases hclosing
  · cases h
  · cases h
  · cases h

theorem Run.takeDue {d : DueStep} (h : s.dueStep = some d) : Run s (s.takeDue d) := by
  cases d with
  | admission => exact Run.enterHead h
  | discard => exact Run.discardHead h
  | quiet => exact (Event.timeout s).run
  | start j =>
    obtain ⟨-, -, -, ⟨h, -⟩ | ⟨h, -⟩⟩ | ⟨h, -⟩ | ⟨i, hi, hchosen⟩ := State.dueStep_cases h
    · cases h
    · cases h
    · cases h
    · cases hi
      obtain ⟨k, kind⟩ := j
      cases kind with
      | encode => exact (Event.startEncode s k hchosen).run
      | decode => exact (Event.startDecode s k hchosen).run

end

end Sys2Proof.Machine

namespace Sys2Proof.Machine

/-! ### Advances, taps and egress boundaries (R61 to R72) -/

section
variable {s : State}

/-- R70, R71: of its record a boundary leaves the state and the configuration. -/
theorem State.egressBoundary_keeps {k : Nat} (hk : k < s.ctxs.length) (j : Nat) :
    ((s.egressBoundary k).ctx j).state = (s.ctx j).state ∧ ((s.egressBoundary k).ctx j).cfg = (s.ctx j).cfg := by
  by_cases hj : j = k
  · subst hj
    cases hready : (s.ctx j).nReady with
    | true =>
      rw [State.egressBoundary_of_ready hready, State.ctx_requestJob, s.ctx_modCtx_self _ hk]
      exact ⟨rfl, rfl⟩
    | false =>
      rw [State.egressBoundary_of_not_ready hready, (State.slip_records hk).2, s.ctx_modCtx_self _ hk]
      exact ⟨rfl, rfl⟩
  · rw [(State.egressBoundary_frame hk).1 j hj]
    exact ⟨rfl, rfl⟩

theorem Run.egressBoundary {k : Nat} (hactive : (s.ctx k).state = .active) (hdownlink : (s.ctx k).cfg.downlink = true) :
    Run s (s.egressBoundary k) := by
  cases hready : (s.ctx k).nReady with
  | true =>
    rw [State.egressBoundary_of_ready hready]
    exact (Event.swap s k hactive hdownlink hready).run
  | false =>
    rw [State.egressBoundary_of_not_ready hready]
    exact (Event.touch s k _ Context.touch_slipped).run.trans (Run.noticeSlip ..)

/-- An advance's boundaries in turn: each finds the states and configurations that the first found. -/
theorem Run.boundaries {f : State → Nat → State} {p : Context → Prop} (l : List Nat)
    (hcongr : ∀ c d : Context, d.state = c.state → d.cfg = c.cfg → p c → p d)
    (hlive : ∀ c, p c → c.state = .active) (hl : ∀ k ∈ l, p (s.ctx k))
    (hrun : ∀ (t : State) k, p (t.ctx k) → Run t (f t k))
    (hkeeps : ∀ (t : State) k, k < t.ctxs.length → ∀ j, ((f t k).ctx j).state = (t.ctx j).state ∧ ((f t k).ctx j).cfg = (t.ctx j).cfg) :
    Run s (l.foldl f s) := by
  have hp : ∀ t : State, (∀ k ∈ l, p (t.ctx k)) → ∀ k ∈ l, ∀ j ∈ l, p ((f t k).ctx j) := fun t ht k hk j hj =>
    have hkept := hkeeps t k (t.lt_length_of_active (hlive _ (ht k hk))) j
    hcongr _ _ hkept.1 hkept.2 (ht j hj)
  exact Run.foldl (P := fun t => ∀ k ∈ l, p (t.ctx k)) s l (fun t ht k hk => hrun t k (ht k hk)) hp hl

theorem Run.advanceIngress {f : Nat} (hf : f < s.win.frames) : Run s (s.advanceIngress f) := by
  unfold State.advanceIngress
  split
  · exact .refl
  · refine (Event.ingressClock s f (advanceSteps s.win.frames s.clocks.inFrame f) hf).run.trans ?_
    refine Run.boundaries (p := fun c => c.state = .active) _ (fun c d hstate _ hc => hstate.trans hc) (fun _ => id) ?_
      (fun t k => Run.flip) fun t k => State.flip_keeps
    intro k hk
    obtain ⟨-, h⟩ := State.mem_ctxsWhere.mp hk
    simp only [Bool.and_eq_true, decide_eq_true_eq] at h
    exact h.1.1

theorem Run.advanceEgress {f : Nat} (hf : f < s.win.frames) : Run s (s.advanceEgress f) := by
  unfold State.advanceEgress
  split
  · exact .refl
  · refine (Event.egressClock s f (advanceSteps s.win.frames s.clocks.outFrame f) hf).run.trans ?_
    refine Run.boundaries (p := fun c => c.state = .active ∧ c.cfg.downlink = true) _
      (fun c d hstate hcfg hc => by rwa [hstate, hcfg]) (fun _ h => h.1) ?_
      (fun t k h => Run.egressBoundary h.1 h.2) fun t k => State.egressBoundary_keeps
    intro k hk
    obtain ⟨-, h⟩ := State.mem_ctxsWhere.mp hk
    simp only [Bool.and_eq_true, decide_eq_true_eq] at h
    exact h.1

theorem Run.tapByte (s : State) (t : Nat) (b : Byte) : Run s (s.tapByte t b) :=
  Run.foldl (P := fun _ => True) s _ (fun u _ k _ => (Event.touch u k _ (Context.touch_tap _ _)).run) (fun _ _ _ _ => trivial) trivial

theorem inArea_iff {base size addr : Nat} : inArea base size addr = true ↔ base ≤ addr ∧ addr < base + size := by
  simp [inArea]

/-- An address of a ring of `frames` frames of `slots` bytes lies in one of its frames. -/
theorem frame_lt {base frames slots addr : Nat} (h : base ≤ addr ∧ addr < base + frames * slots) :
    (addr - base) / slots < frames := by
  rcases Nat.eq_zero_or_pos slots with h0 | h0
  · rw [h0, Nat.mul_zero] at h
    omega
  · exact (Nat.div_lt_iff_lt_mul h0).mpr (by omega)

theorem State.areaOf_ingressPcm {a : Nat} (h : s.areaOf a = .ingressPcm) :
    s.part.state ≠ .idle ∧ s.win.ingressBase ≤ a ∧ a < s.win.ingressBase + s.win.frames * s.win.slots := by
  unfold State.areaOf at h
  split_ifs at h with _ hidle harea
  exact ⟨hidle, inArea_iff.mp harea⟩

theorem State.areaOf_egressPcm {a : Nat} (h : s.areaOf a = .egressPcm) :
    s.part.state ≠ .idle ∧ s.win.egressBase ≤ a ∧ a < s.win.egressBase + s.win.frames * s.win.slots := by
  unfold State.areaOf at h
  split_ifs at h with _ hidle _ harea
  exact ⟨hidle, inArea_iff.mp harea⟩

theorem Run.ingressWrite {addr : Nat} (h : s.areaOf addr = .ingressPcm) (cells : List (Nat × Byte)) :
    Run s (s.ingressWrite addr cells) := by
  refine (Run.advanceIngress (frame_lt (State.areaOf_ingressPcm h).2)).trans ?_
  exact Run.foldl (P := fun _ => True) _ _ (fun u _ c _ => Run.tapByte u _ _) (fun _ _ _ _ => trivial) trivial

/-! ### Commands (chapters 6 and 11) -/

theorem Run.contextCommand {k : Nat} (hk : k < 384) (code tag : Byte) : Run s (s.contextCommand k code tag) := by
  unfold State.contextCommand
  split_ifs
  · exact .refl
  · unfold State.commandOpen
    split
    · exact Run.ctxStatus ..
    · exact (Event.openContext s k hk ‹_›).run.trans (Run.ctxStatus ..)
  · unfold State.commandModify
    split
    · exact Run.ctxStatus ..
    · rename_i h
      have hactive : (s.ctx k).state = .active := by
        simp only [State.modifyRefusal] at h
        split_ifs at h with hclosed hclosing
        cases hstate : (s.ctx k).state <;> simp_all
      exact (Run.modifyEffect hactive).trans (Run.ctxStatus ..)
  · unfold State.commandHandover
    split
    · exact Run.ctxStatus ..
    · exact (Event.handover s k ‹_›).run.trans (Run.ctxStatus ..)
  · unfold State.commandClose
    split
    · exact Run.ctxStatus ..
    · rename_i h
      have hactive : (s.ctx k).state = .active := by
        unfold State.closeRefusal at h
        split at h
        · cases h
        · cases h
        · assumption
      refine (Event.close s k tag hactive).run.trans ?_
      dsimp only
      split
      · exact (Run.ctxStatus ..).trans (Run.noticeClosed ..)
      · exact Run.ctxStatus ..
  · unfold State.commandReport
    split
    · exact Run.ctxStatus ..
    · refine ((Run.placeNotice s _ _ _ (by rfl)).trans (Run.count _ _ ?_)).trans (Run.ctxStatus ..)
      simp [Counters.bounded_iff, Counters.zero]
  · exact Run.ctxStatus ..

theorem Run.controlCommand (code tag : Byte) : Run s (s.controlCommand code tag) := by
  unfold State.controlCommand
  split_ifs
  · exact .refl
  · unfold State.commandStart
    split
    · exact Run.ctlStatus ..
    · exact (Event.start s ‹_›).run.trans (Run.ctlStatus ..)
  · unfold State.commandStop
    split
    · exact Run.ctlStatus ..
    · rename_i h
      have hclosed : ∀ c ∈ s.ctxs, c.state = .closed := by
        unfold State.stopRefusal at h
        split_ifs at h with _ hall
        simpa using hall
      have hfetches : Event s s.endFetches := Event.fetchUnit s _ fun _ => Ffu.empty_lawful
      exact (hfetches.run.trans (Event.stop s.endFetches hclosed).run).trans (Run.ctlStatus ..)
  · exact (Event.clear s).run.trans (Run.ctlStatus ..)
  · exact Run.ctlStatus ..

/-- A command word's context number is a context's (R74). -/
theorem includedCommand_lt {offs : List (Nat × Byte)} {k : Nat} (h : includedCommand offs = some (.context k)) : k < 384 := by
  obtain ⟨c, -, hc⟩ := List.exists_of_findSome?_eq_some h
  unfold commandWordAt at hc
  split_ifs at hc with _ hrange
  · cases hc
  · cases hc
    omega

theorem Run.consumerWrites (s : State) (offs : List (Nat × Byte)) : Run s (s.consumerWrites offs) := by
  unfold State.consumerWrites
  split
  · rename_i hrunning
    have hfirst : Run s (if touchesWord offs 0x34 then s.egressConsumer else s) := by
      split
      · exact (Event.egressConsumer s hrunning).run
      · exact .refl
    have hpart : (if touchesWord offs 0x34 then s.egressConsumer else s).part.state = .running := by
      split
      · unfold State.egressConsumer State.examineReady
        split <;> exact hrunning
      · exact hrunning
    have hsecond : ∀ u : State, u.part.state = .running → Run u (if touchesWord offs 0x3C then u.noticeConsumer else u) := by
      intro u hu
      split
      · exact (Event.noticeConsumer u hu).run
      · exact .refl
    exact hfirst.trans (hsecond _ hpart)
  · exact .refl

theorem Run.controlWrite (s : State) (cells : List (Nat × Byte)) : Run s (s.controlWrite cells) := by
  refine (Run.snoop s (s.controlCells cells)).trans ?_
  unfold State.controlWrite
  dsimp only
  split
  · rename_i w hw
    cases w with
    | control => exact Run.controlCommand ..
    | context k => exact Run.contextCommand (includedCommand_lt hw) ..
  · exact Run.consumerWrites ..

/-! ### Grants to a master, and the resets -/

theorem Run.grantWrite (s : State) (b : WriteBurst) : Run s (s.grantWrite b) := by
  refine (Run.writeThrough s (burstCells b)).trans ?_
  unfold State.grantWrite State.writeEffect
  split
  · exact Run.controlWrite ..
  · exact Run.ingressWrite ‹_› _
  · exact Run.mobileIngress ..
  · exact .refl
  · exact .refl

theorem Run.grantRead (s : State) (b : ReadBurst) : Run s (s.grantRead b) := by
  refine (Run.countMasterGrant s).trans ?_
  unfold State.grantRead
  dsimp only
  split
  · exact (Run.advanceEgress (frame_lt (State.areaOf_egressPcm ‹_›).2)).trans (Run.returned ..)
  · exact Run.returned ..

end

/-- Every step is a run of events. -/
theorem step_run {s t : State} (h : step s = .next t) : Run s t := by
  refine step_keeps (P := Run s) (fun u l hu => ?pending) (fun u d hd hu => ?due) (fun u hu => ?drain) (fun u hu => ?fetch)
    (fun u b _ hu => ?write) (fun u b _ hu => ?read) (fun u k hu => ?encodeEnd) (fun u k hu => ?decodeEnd)
    (fun u c m hu => ?power) (fun u c m hu => ?pin) h .refl
  case pending => exact hu.trans (Run.pending u l)
  case due => exact hu.trans (Run.takeDue hd)
  case drain => exact hu.trans (Run.drainGrant u)
  case fetch => exact hu.trans (Run.fetchGrant u)
  case write => exact hu.trans (Run.grantWrite u b)
  case read => exact hu.trans (Run.grantRead u b)
  case encodeEnd => exact hu.trans (Run.encodeEnd u k)
  case decodeEnd => exact hu.trans (Run.decodeEnd u k)
  case power => exact hu.trans (Event.reset u c m [] (.inl rfl)).run
  case pin => exact hu.trans (Event.reset u c m u.shadow (.inr rfl)).run

/-- A law that every event keeps, every step keeps. -/
theorem step_keeps_of_event {P : State → Prop} (h : ∀ s t, Event s t → P s → P t) {s t : State} (hstep : step s = .next t)
    (hs : P s) : P t := (step_run hstep).keeps h hs

end Sys2Proof.Machine

/-! The commands and job starts that change several blocks at once, each as one new state: what they put in place of a record, of
the maps and of the engine, beside moves of pool blocks. -/
namespace Sys2Proof.Machine

/-! ### Notices and pool blocks do not look at records, maps or the engine -/

/-- The state with its records, its maps and its engine replaced. -/
def State.withRecords (s : State) (ctxs : List Context) (tsm : Tsm) (tags : List (Nat × Nat)) (engine : Engine) : State :=
  { s with ctxs := ctxs, tsm := tsm, tags := tags, engine := engine }

section
variable (s : State) (ctxs : List Context) (tsm : Tsm) (tags : List (Nat × Nat)) (engine : Engine)

theorem State.placeNotice_withRecords (kind : NoticeKind) (ctx detail : Nat) (l : List Nat) :
    (s.withRecords ctxs tsm tags engine).placeNotice kind ctx detail l =
      (s.placeNotice kind ctx detail l).withRecords ctxs tsm tags engine := by
  unfold State.placeNotice
  rw [apply_ite (State.withRecords · ctxs tsm tags engine)]
  rfl

theorem State.examineLow_withRecords :
    (s.withRecords ctxs tsm tags engine).examineLow = s.examineLow.withRecords ctxs tsm tags engine := by
  unfold State.examineLow
  simp only [apply_ite (State.withRecords · ctxs tsm tags engine), ← State.placeNotice_withRecords]
  rfl

theorem State.returnEach_withRecords (es : List PlayEntry) :
    (s.withRecords ctxs tsm tags engine).returnEach es = (s.returnEach es).withRecords ctxs tsm tags engine := by
  induction es generalizing s with
  | nil => rfl
  | cons e es ih =>
    have hfirst := ({ s with pool := { s.pool with free := s.pool.free + e.blocks } } : State).examineLow_withRecords
      ctxs tsm tags engine
    exact (congrArg (State.returnEach · es) hfirst).trans (ih _)

end

/-! ### CLOSE (R103) -/

/-- The record an accepted CLOSE leaves. -/
def Context.closedBy (tag : Byte) (c : Context) : Context :=
  { c with
    state := if c.runningJobs = 0 then .closed else .closing
    closeTag := tag, closeCode := codeClose, playout := [] }

/-- The timeslot map once a context has left it (R85). -/
def Tsm.leave (m : Tsm) (k : Nat) (cfg : Captured) : Tsm :=
  { taps := if cfg.uplink then m.taps.set cfg.inSlot ((m.taps.getD cfg.inSlot []).filter (· != k)) else m.taps
    claims := if cfg.downlink then m.claims.set cfg.outSlot ((m.claims.getD cfg.outSlot []).filter (· != k)) else m.claims }

/-- The job queue once a context's pending jobs are withdrawn (R103). -/
def Engine.withdrawAll (e : Engine) (k : Nat) : Engine := { e with jobs := e.jobs.filter fun j => decide (j.ctx ≠ k) }

theorem State.leaveMap_eq (s : State) (k : Nat) (cfg : Captured) : s.leaveMap k cfg = { s with tsm := s.tsm.leave k cfg } := by
  unfold State.leaveMap Tsm.leave
  cases cfg.uplink <;> cases cfg.downlink <;> rfl

theorem filter_jobs_of_ctx (jobs : List Job) (k : Nat) :
    (jobs.filter (· != Job.mk k .encode)).filter (· != Job.mk k .decode) = jobs.filter fun j => decide (j.ctx ≠ k) := by
  rw [List.filter_filter]
  refine List.filter_congr fun j _ => ?_
  obtain ⟨i, kind⟩ := j
  rw [Bool.eq_iff_iff]
  cases kind with
  | encode => simp
  | decode => simp

theorem State.closeEffect_eq {s : State} {k : Nat} (tag : Byte) (hk : k < s.ctxs.length) :
    s.closeEffect k tag = (s.returnEach (s.ctx k).playout).withRecords (s.ctxs.set k ((s.ctx k).closedBy tag))
      (s.tsm.leave k (s.ctx k).cfg) (s.tags.filter fun p => p.2 != k) (s.engine.withdrawAll k) := by
  let c : Context := { s.ctx k with state := .closing, closeTag := tag, closeCode := codeClose }
  have hc : (s.setCtx k c).ctx k = c := s.ctx_setCtx_self c hk
  let u : State := s.withRecords (s.ctxs.set k c) (s.tsm.leave k (s.ctx k).cfg) (s.tags.filter fun p => p.2 != k)
    (s.engine.withdrawAll k)
  have huc : u.ctx k = c := hc
  have hclose : s.closeEffect k tag =
      (u.releaseAll k).modCtx k fun c => if c.runningJobs = 0 then { c with state := .closed } else c := by
    have hjobs : ∀ v : State, (v.withdrawJob k .encode).withdrawJob k .decode = { v with engine := v.engine.withdrawAll k } := by
      intro v
      rw [Engine.withdrawAll, ← filter_jobs_of_ctx]
      rfl
    simp only [State.closeEffect, hjobs]
    have hmod : s.modCtx k (fun c => { c with state := .closing, closeTag := tag, closeCode := codeClose }) = s.setCtx k c := rfl
    rw [hmod, hc, State.leaveMap_eq]
    rfl
  have hrelease : u.releaseAll k = (u.returnEach c.playout).modCtx k fun c => { c with playout := [] } := by
    have hfold : u.releaseAll k = (u.modCtx k fun c => { c with playout := [] }).returnEach (u.ctx k).playout := rfl
    rw [hfold, State.returnEach_modCtx, huc]
  have hreturn : u.returnEach c.playout = (s.returnEach c.playout).withRecords (s.ctxs.set k c) (s.tsm.leave k (s.ctx k).cfg)
      (s.tags.filter fun p => p.2 != k) (s.engine.withdrawAll k) := s.returnEach_withRecords ..
  rw [hclose, hrelease, State.modCtx_comp, hreturn]
  have hrecord : ((s.returnEach c.playout).withRecords (s.ctxs.set k c) (s.tsm.leave k (s.ctx k).cfg)
      (s.tags.filter fun p => p.2 != k) (s.engine.withdrawAll k)).ctx k = c := hc
  rw [State.modCtx, hrecord]
  have hclosed : ((fun c : Context => if c.runningJobs = 0 then { c with state := .closed } else c) ∘
      fun c => { c with playout := [] }) c = (s.ctx k).closedBy tag := by
    simp only [Function.comp, Context.closedBy, c]
    split <;> rfl
  rw [hclosed]
  simp [State.setCtx, State.withRecords, c]

/-! ### OPEN (R98) -/

/-- The timeslot map once a context has joined it (R82). -/
def Tsm.join (m : Tsm) (k : Nat) (cfg : Captured) : Tsm :=
  { taps := if cfg.uplink then m.taps.set cfg.inSlot (m.taps.getD cfg.inSlot [] ++ [k]) else m.taps
    claims := if cfg.downlink then m.claims.set cfg.outSlot (m.claims.getD cfg.outSlot [] ++ [k]) else m.claims }

theorem State.openEffect_eq (s : State) (k : Nat) :
    let cfg := readCaptured s.shadow k
    s.openEffect k = s.withRecords (s.ctxs.set k ((s.ctx k).opened k cfg)) (s.tsm.join k cfg)
      (if cfg.downlink then s.tags ++ [(cfg.tag, k)] else s.tags)
      { s.engine with jobs := if cfg.downlink then s.engine.jobs ++ [Job.mk k .decode] else s.engine.jobs } := by
  intro cfg
  have hmap : ∀ u : State, u.joinMap k cfg = { u with tsm := u.tsm.join k cfg } := by
    intro u
    unfold State.joinMap Tsm.join
    cases cfg.uplink <;> cases cfg.downlink <;> rfl
  have hopen : s.openEffect k =
      let u := (s.modCtx k (Context.opened k cfg)).joinMap k cfg
      if cfg.downlink then ({ u with tags := u.tags ++ [(cfg.tag, k)] }).requestJob k .decode else u := rfl
  rw [hopen, hmap]
  cases cfg.downlink <;> rfl

/-! ### A decode start (R139) -/

/-- The blocks the queue's answer returns. -/
def State.answerBlocks (s : State) (k : Nat) : Nat := ((s.playoutAnswer k).map (·.blocks)).getD 0

theorem State.startDecode_refill (s : State) (k : Nat) :
    ∃ u, Refill s u ∧ u.pool.free = s.pool.free + s.answerBlocks k ∧
      s.startDecode k = u.withRecords (s.ctxs.set k (s.ctx k).takeFront.startJob) s.tsm s.tags
        (s.engine.take (.decode (s.decodeCopies k))) := by
  let u : State := match s.playoutAnswer k with | none => s | some e => s.returnBlocks e.blocks
  have hu : Refill s u ∧ u.pool.free = s.pool.free + s.answerBlocks k := by
    simp only [u, State.answerBlocks]
    cases s.playoutAnswer k with
    | none => exact ⟨Refill.refl s, rfl⟩
    | some e => exact ⟨s.returnBlocks_refill _, s.returnBlocks_free _⟩
  have htake : s.takePlayout k = u.modCtx k Context.takeFront := by
    rw [State.takePlayout_eq]
    simp only [u]
    cases s.playoutAnswer k with
    | none => rfl
    | some e =>
      have hmod := s.returnBlocks_setCtx k (s.ctx k).takeFront e.blocks
      rw [State.modCtx, State.modCtx, (s.returnBlocks_refill _).ctx]
      exact hmod
  refine ⟨u, hu.1, hu.2, ?_⟩
  have hoccupy := (s.takePlayout k).occupyLane_eq (.decode (s.decodeCopies k))
  have hstart : s.startDecode k = (s.takePlayout k).occupyLane k (.decode (s.decodeCopies k)) := rfl
  rw [hstart]
  refine hoccupy.trans ?_
  have hjob : (Running.decode (s.decodeCopies k)).job.ctx = k := rfl
  rw [hjob, htake]
  rcases Nat.lt_or_ge k s.ctxs.length with hk | hk
  · have hk' : k < u.ctxs.length := by rwa [hu.1.ctxs]
    rw [u.ctx_modCtx_self _ hk', hu.1.ctx, State.modCtx, State.setCtx, hu.1.ctx, hu.1.ctxs]
    rw [hu.1.frame]
    simp [State.withRecords]
  · simp only [State.modCtx, State.setCtx, hu.1.ctxs, List.set_eq_of_length_le hk]
    rw [hu.1.frame]
    rfl

end Sys2Proof.Machine

/-! The laws of single blocks, held against each event: most events do not touch the block a law looks at. -/
namespace Sys2Proof.Machine

/-! ### READY and EVENT (R164, R170) -/

/-- The part of the line law that is EVENT's (R170). -/
abbrev State.eventRule (s : State) : Prop :=
  s.ntw.event = true ↔ s.part.state = .running ∧ (s.part.trigger ≤ s.noticeCount ∨ s.ntw.latch = true)

/-- The part of the line law that is READY's (R164). -/
abbrev State.readyRule (s : State) : Prop :=
  (s.part.readyMode = .level → (s.erw.ready = true ↔ s.part.state = .running ∧ 1 ≤ s.egressCount)) ∧
    (s.part.readyMode = .burst → (s.erw.ready = true ↔ s.part.state = .running ∧ s.erw.latch = true))

theorem State.examineEvent_eventRule (s : State) : s.examineEvent.eventRule := by
  show (decide (s.part.state = .running) && (decide (s.part.trigger ≤ s.noticeCount) || s.ntw.latch)) = true ↔
    s.part.state = .running ∧ (s.part.trigger ≤ s.noticeCount ∨ s.ntw.latch = true)
  simp

theorem State.examineReady_readyRule (s : State) : s.examineReady.readyRule := by
  unfold State.examineReady
  cases hmode : s.part.readyMode with
  | level =>
    refine ⟨fun _ => ?_, fun h => absurd (hmode.symm.trans h) (by decide)⟩
    show (decide (s.part.state = .running) && decide (1 ≤ s.egressCount)) = true ↔ s.part.state = .running ∧ 1 ≤ s.egressCount
    simp
  | burst =>
    refine ⟨fun h => absurd (hmode.symm.trans h) (by decide), fun _ => ?_⟩
    show (decide (s.part.state = .running) && readyLatch s.egressCount s.part.threshold s.erw.latch) = true ↔
      s.part.state = .running ∧ readyLatch s.egressCount s.part.threshold s.erw.latch = true
    simp

theorem State.examineReady_erw (s : State) : s.examineReady = { s with erw := s.examineReady.erw } := by
  unfold State.examineReady
  split <;> rfl

theorem State.examineReady_eventRule {s : State} (h : s.eventRule) : s.examineReady.eventRule := by
  rw [State.examineReady_erw]
  exact h

theorem State.lineLaw_of_idle {s : State} (h : s.part.state = .idle) (hready : s.erw.ready = false)
    (hevent : s.ntw.event = false) : s.lineLaw := by
  simp [State.lineLaw, h, hready, hevent]

theorem Refill.lineLaw {s u : State} (h : Refill s u) (hs : s.lineLaw) : u.lineLaw := by
  rw [h.frame]
  exact hs

theorem Event.lineLaw {s t : State} (h : Event s t) (hs : s.lineLaw) : t.lineLaw := by
  cases h with
  | port | touch | status | fetchUnit | ingressClock | egressClock | withdrawEncode | requestEncode | swap | startEncode | encoded
  | queued | encodeDone | decoded | decodeDropped | admitPlain | discard | handover => exact hs
  | notice u hfill => exact hfill.lineLaw hs
  | timeout => exact ⟨State.examineEvent_eventRule _, hs.2⟩
  | egressConsumer => exact ⟨State.examineReady_eventRule hs.1, State.examineReady_readyRule _⟩
  | noticeConsumer => exact ⟨State.examineEvent_eventRule _, hs.2⟩
  | startDecode k =>
    obtain ⟨u, hfill, -, heq⟩ := s.startDecode_refill k
    rw [heq]
    exact hfill.lineLaw hs
  | admitNotice => exact ⟨State.examineEvent_eventRule _, hs.2⟩
  | admitEgress => exact ⟨State.examineReady_eventRule hs.1, State.examineReady_readyRule _⟩
  | requeue u k d hfill => exact hfill.lineLaw hs
  | openContext k =>
    rw [State.openEffect_eq]
    exact hs
  | close k tag hactive =>
    rw [State.closeEffect_eq tag (s.lt_length_of_active hactive)]
    exact (s.returnEach_refill _).lineLaw hs
  | start =>
    refine ⟨State.examineEvent_eventRule _, ?_⟩
    exact State.examineReady_readyRule _
  | stop => exact State.lineLaw_of_idle rfl rfl rfl
  | clear => exact State.lineLaw_of_idle rfl rfl rfl
  | reset => exact State.lineLaw_of_idle rfl rfl rfl

/-- Settles O54: every event that moves a count, a latch or the part state examines the line or drops it. -/
theorem linesFollowRules : Obligations.LinesFollowRules := by
  intro s t hstep hs
  exact step_keeps_of_event (fun _ _ => Event.lineLaw) hstep hs

end Sys2Proof.Machine

/-! What an event can do to the context records and to the running jobs, said once for the laws that hold of each of them. -/
namespace Sys2Proof.Machine

/-! ### A consumer write and a START in one piece -/

theorem State.egressConsumer_eq (s : State) : s.egressConsumer = { s with erw := s.egressConsumer.erw } := by
  unfold State.egressConsumer
  rw [State.examineReady_erw]

theorem State.startEffect_eq (s : State) :
    s.startEffect = { s with
      part := s.startedPart
      clocks := { inPos := 0, inFrame := 0, frameNo := 0, outPos := 0, outFrame := 0 }
      erw := s.startEffect.erw, ntw := s.startEffect.ntw, pwq := s.startEffect.pwq } := by
  unfold State.startEffect
  dsimp only
  rw [State.examineReady_erw]
  rfl

/-- A record change and a completion after it, as one change of the record. -/
theorem State.freeLane_modCtx (s : State) (k : Nat) (f : Context → Context) (kind : JobKind) :
    (s.modCtx k f).freeLane k kind = ({ s with engine := { s.engine with
      running := s.engine.running.filter fun r => decide (r.job ≠ Job.mk k kind) } } : State).modCtx k
        ((fun c => { c with runningJobs := c.runningJobs - 1 }) ∘ f) := by
  rw [← State.modCtx_comp]
  rfl

/-! ### The records -/

/-- The new record that an event puts in the place of context `k`'s. -/
inductive RecordEvent (s : State) : Nat → Context → Prop
  | touch (k : Nat) (d : Context) (h : (s.ctx k).Touch d) : RecordEvent s k d
  | swap (k : Nat) (hactive : (s.ctx k).state = .active) : RecordEvent s k (s.ctx k).swap
  | started (k : Nat) : RecordEvent s k (s.ctx k).startJob
  | answered (k : Nat) : RecordEvent s k (s.ctx k).takeFront.startJob
  | encoded (j : EncodeJob) (hj : Running.encode j ∈ s.engine.running) :
      RecordEvent s j.ctx { s.ctx j.ctx with enc := (encodeWork j).enc }
  | freed (k : Nat) : RecordEvent s k (s.ctx k).freed
  | decoded (j : DecodeJob) (hj : Running.decode j ∈ s.engine.running) (hactive : (s.ctx j.ctx).state = .active) :
      RecordEvent s j.ctx ((s.ctx j.ctx).takeDecoded (decodeWork j)).freed
  | requeued (k : Nat) (d : Context) (free free' : Nat) (h : (s.ctx k).Requeue d free free')
      (hlive : (s.ctx k).state = .active ∨ ∃ p ∈ s.tags, p.2 = k) : RecordEvent s k d
  | opened (k : Nat) (hk : k < 384) (h : s.openRefusal k = none) :
      RecordEvent s k ((s.ctx k).opened k (readCaptured s.shadow k))
  | closed (k : Nat) (tag : Byte) (hactive : (s.ctx k).state = .active) : RecordEvent s k ((s.ctx k).closedBy tag)

/-- An event leaves the records, puts one new record in its place, clears them all (R109) or resets them (R110). -/
theorem Event.records {s t : State} (h : Event s t) :
    t.ctxs = s.ctxs ∨ (∃ k d, t.ctxs = s.ctxs.set k d ∧ RecordEvent s k d) ∨ t.ctxs = s.ctxs.map Context.atClear ∨
      t.ctxs = List.replicate 384 Context.cleared := by
  have one : ∀ {k d}, RecordEvent s k d → t.ctxs = s.ctxs.set k d →
      t.ctxs = s.ctxs ∨ (∃ k d, t.ctxs = s.ctxs.set k d ∧ RecordEvent s k d) ∨ t.ctxs = s.ctxs.map Context.atClear ∨
        t.ctxs = List.replicate 384 Context.cleared := fun hd heq => .inr (.inl ⟨_, _, heq, hd⟩)
  cases h with
  | port | status | fetchUnit | ingressClock | egressClock | timeout | noticeConsumer | withdrawEncode | requestEncode | queued
  | admitPlain | admitNotice | handover | stop => exact .inl rfl
  | egressConsumer =>
    rw [State.egressConsumer_eq]
    exact .inl rfl
  | start =>
    rw [State.startEffect_eq]
    exact .inl rfl
  | notice _ h => exact .inl h.ctxs
  | touch k d h => exact one (.touch k d h) rfl
  | swap k hactive => exact one (.swap k hactive) rfl
  | startEncode k => exact one (.started k) rfl
  | startDecode k =>
    obtain ⟨u, -, -, heq⟩ := s.startDecode_refill k
    exact one (.answered k) (by rw [heq]; rfl)
  | encoded j hj => exact one (.encoded j hj) rfl
  | encodeDone j => exact one (.freed j.ctx) rfl
  | decoded j hj hactive =>
    have hfreed : ((s.ctx j.ctx).takeDecoded (decodeWork j)).freed =
        { (s.ctx j.ctx).takeDecoded (decodeWork j) with runningJobs := (s.ctx j.ctx).runningJobs - 1 } :=
      Context.freed_of_ne (show (s.ctx j.ctx).state ≠ .closing by simp [hactive])
    refine one (.decoded j hj hactive) ?_
    rw [hfreed, State.freeLane_modCtx]
    rfl
  | decodeDropped j => exact one (.freed j.ctx) rfl
  | admitEgress k =>
    refine one (.freed k) ?_
    rw [State.examineReady_erw]
    rfl
  | discard k => exact one (.freed k) rfl
  | requeue u k d hfill h hlive => exact one (.requeued k d _ _ h hlive) (congrArg (List.set · k d) hfill.ctxs)
  | openContext k hk h => exact one (.opened k hk h) (by rw [State.openEffect_eq]; rfl)
  | close k tag hactive =>
    exact one (.closed k tag hactive) (by rw [State.closeEffect_eq tag (s.lt_length_of_active hactive)]; rfl)
  | clear => exact .inr (.inr (.inl rfl))
  | reset => exact .inr (.inr (.inr rfl))

/-- What holds of every record, of the record an event puts in place of one, and of cleared ones, holds of every record after. -/
theorem Event.forall_ctxs {P : Context → Prop} {s t : State} (h : Event s t) (hs : ∀ c ∈ s.ctxs, P c)
    (hrecord : ∀ k d, RecordEvent s k d → P (s.ctx k) → P d) (hclear : ∀ c, P c → P c.atClear) (hreset : P Context.cleared) :
    ∀ c ∈ t.ctxs, P c := by
  obtain heq | ⟨k, d, heq, hd⟩ | heq | heq := h.records
  · rwa [heq]
  · have hset := s.forall_setCtx (d := d) hs fun hk => hrecord k d hd (hs _ hk)
    rw [heq]
    exact hset
  · rw [heq]
    exact List.forall_mem_map.mpr fun c hc => hclear c (hs c hc)
  · rw [heq]
    intro c hc
    rw [List.eq_of_mem_replicate hc]
    exact hreset

theorem State.ctx_of_forall {P : Context → Prop} {s : State} (hs : ∀ c ∈ s.ctxs, P c) (hcleared : P Context.cleared) (k : Nat) :
    P (s.ctx k) := by
  rcases Nat.lt_or_ge k s.ctxs.length with hk | hk
  · exact hs _ (by simp [State.ctx, hk])
  · rwa [s.ctx_of_length_le hk]

/-! ### The running jobs -/

/-- The encode job that waits for its group once its frame is handed off (R138). -/
def Running.marked (k : Nat) : Running → Running
  | .encode j => if j.ctx = k then .encode { j with waiting := true } else .encode j
  | .decode j => .decode j

theorem State.markWaiting_eq (s : State) (k : Nat) :
    s.markWaiting k = { s with engine := { s.engine with running := s.engine.running.map (Running.marked k) } } := by
  have : (fun r : Running => match r with
      | .encode j => if j.ctx = k then .encode { j with waiting := true } else .encode j
      | .decode j => .decode j) = Running.marked k := by
    funext r
    cases r <;> rfl
  rw [← this]
  rfl

/-- An event leaves the running jobs or takes some out, starts one, or marks one as waiting. -/
theorem Event.running {s t : State} (h : Event s t) :
    t.engine.running.Sublist s.engine.running ∨
      (∃ k, s.chosenJob = some { ctx := k, kind := .encode } ∧
        t.engine.running = s.engine.running ++ [.encode (s.encodeCopies k)]) ∨
      (∃ k, s.chosenJob = some { ctx := k, kind := .decode } ∧
        t.engine.running = s.engine.running ++ [.decode (s.decodeCopies k)]) ∨
      ∃ k, t.engine.running = s.engine.running.map (Running.marked k) := by
  have same : t.engine.running = s.engine.running → t.engine.running.Sublist s.engine.running := fun heq =>
    heq ▸ List.Sublist.refl _
  cases h with
  | port | touch | status | fetchUnit | ingressClock | egressClock | timeout | noticeConsumer | withdrawEncode | requestEncode
  | swap | encoded | admitPlain | admitNotice | handover | stop => exact .inl <| same rfl
  | egressConsumer =>
    exact .inl (same (by rw [State.egressConsumer_eq]))
  | start =>
    exact .inl (same (by rw [State.startEffect_eq]))
  | notice _ h => exact .inl <| same (by rw [h.frame])
  | startEncode k h => exact .inr (.inl ⟨k, h, rfl⟩)
  | startDecode k h =>
    obtain ⟨u, -, -, heq⟩ := s.startDecode_refill k
    exact .inr (.inr (.inl ⟨k, h, by rw [heq]; rfl⟩))
  | queued j =>
    refine .inr (.inr (.inr ⟨j.ctx, ?_⟩))
    rw [State.markWaiting_eq]
    rfl
  | encodeDone | decoded | decodeDropped | discard => exact .inl List.filter_sublist
  | admitEgress =>
    rw [State.examineReady_erw]
    exact .inl List.filter_sublist
  | requeue u k d hfill => exact .inl <| same (by rw [hfill.frame]; rfl)
  | openContext k => exact .inl <| same (by rw [State.openEffect_eq]; rfl)
  | close k tag hactive => exact .inl <| same (by rw [State.closeEffect_eq tag (s.lt_length_of_active hactive)]; rfl)
  | clear => exact .inl (List.nil_sublist _)
  | reset => exact .inl (List.nil_sublist _)

/-- What holds of every running job, of those that start and of those marked, holds of every running job after. -/
theorem Event.forall_running {P : Running → Prop} {s t : State} (h : Event s t) (hs : ∀ r ∈ s.engine.running, P r)
    (hencode : ∀ k, s.chosenJob = some { ctx := k, kind := .encode } → P (.encode (s.encodeCopies k)))
    (hdecode : ∀ k, s.chosenJob = some { ctx := k, kind := .decode } → P (.decode (s.decodeCopies k)))
    (hmark : ∀ k r, P r → P (r.marked k)) : ∀ r ∈ t.engine.running, P r := by
  have append : ∀ r, P r → ∀ x ∈ s.engine.running ++ [r], P x := fun r hr =>
    List.forall_mem_append.mpr ⟨hs, by simpa using hr⟩
  obtain hsub | ⟨k, hk, heq⟩ | ⟨k, hk, heq⟩ | ⟨k, heq⟩ := h.running
  · exact fun r hr => hs r (hsub.subset hr)
  · rw [heq]; exact append _ (hencode k hk)
  · rw [heq]; exact append _ (hdecode k hk)
  · rw [heq]; exact List.forall_mem_map.mpr fun r hr => hmark k r (hs r hr)

/-! ### The queue, the lanes, the memories and the fetch unit (R112, R131, R150) -/

theorem State.length_groupWords (s : State) (g : Group) : (s.groupWords g).length = g.size := by
  cases g with
  | egress => simp [State.groupWords, Group.size]
  | notice | status | indexReset => rfl

/-- What an event leaves of the queue of words, of the memories and of the fetch unit keeps their laws. -/
theorem Event.storageLaws {s t : State} (h : Event s t) :
    (s.queueLaw → t.queueLaw) ∧ (s.memoryLaw → t.memoryLaw) ∧ (s.ffu.lawful → t.ffu.lawful) := by
  have keep : ∀ u : State, u.pwq.entries = s.pwq.entries → u.mem = s.mem → u.shadow = s.shadow → u.ffu = s.ffu →
      (s.queueLaw → u.queueLaw) ∧ (s.memoryLaw → u.memoryLaw) ∧ (s.ffu.lawful → u.ffu.lawful) := by
    intro u hentries hmem hshadow hffu
    simp only [State.queueLaw, State.memoryLaw, hentries, hmem, hshadow, hffu]
    exact ⟨id, id, id⟩
  have fill : ∀ u : State, Refill s u → u.pwq.entries = s.pwq.entries ∧ u.mem = s.mem ∧ u.shadow = s.shadow ∧ u.ffu = s.ffu := by
    intro u hfill
    rw [hfill.frame]
    exact ⟨rfl, rfl, rfl, rfl⟩
  have enterLaw : ∀ g rest, s.pwq.entries.length + g.size ≤ 64 → (s.entered g rest).queueLaw := by
    intro g rest hfit
    simpa [State.queueLaw, State.entered, State.length_groupWords] using hfit
  cases h with
  | touch | status | ingressClock | egressClock | timeout | noticeConsumer | withdrawEncode | requestEncode | swap
  | startEncode | encoded | queued | encodeDone | decoded | decodeDropped | discard | handover | stop =>
    exact keep _ rfl rfl rfl rfl
  | port _ _ entries _ _ _ _ hmem hshadow hentries =>
    exact ⟨fun hs => hentries.trans hs, fun hs => ⟨hmem hs.1, hshadow hs.2⟩, id⟩
  | fetchUnit u hu => exact ⟨id, id, hu⟩
  | notice _ hfill =>
    obtain ⟨hentries, hmem, hshadow, hffu⟩ := fill _ hfill
    exact keep _ hentries hmem hshadow hffu
  | egressConsumer =>
    rw [State.egressConsumer_eq]
    exact keep _ rfl rfl rfl rfl
  | startDecode k =>
    obtain ⟨u, hfill, -, heq⟩ := s.startDecode_refill k
    obtain ⟨hentries, hmem, hshadow, hffu⟩ := fill u hfill
    rw [heq]
    exact keep _ hentries hmem hshadow hffu
  | admitPlain g rest _ _ hfit => exact ⟨fun _ => enterLaw g rest hfit, id, id⟩
  | admitNotice ws rest _ hfit => exact ⟨fun _ => enterLaw _ rest hfit, id, id⟩
  | admitEgress k slot ws rest _ _ hfit =>
    rw [State.examineReady_erw]
    exact ⟨fun _ => enterLaw _ rest hfit, id, id⟩
  | requeue u k d hfill =>
    obtain ⟨hentries, hmem, hshadow, hffu⟩ := fill u hfill
    exact keep _ hentries hmem hshadow hffu
  | openContext k =>
    rw [State.openEffect_eq]
    exact keep _ rfl rfl rfl rfl
  | close k tag hactive =>
    obtain ⟨hentries, hmem, hshadow, hffu⟩ := fill _ (s.returnEach_refill (s.ctx k).playout)
    rw [State.closeEffect_eq tag (s.lt_length_of_active hactive)]
    exact keep _ hentries hmem hshadow hffu
  | start =>
    have hentries : s.startEffect.pwq.entries = s.pwq.entries := by
      show (State.examineReady _).pwq.entries = _
      rw [State.examineReady_erw]
      rfl
    rw [State.startEffect_eq]
    exact keep _ hentries rfl rfl rfl
  | clear => exact ⟨id, id, fun _ => Ffu.empty_lawful⟩
  | reset cbBase memSize shadow hshadow =>
    refine ⟨fun _ => Nat.zero_le _, fun hs => ?_, fun _ => Ffu.empty_lawful⟩
    obtain rfl | rfl := hshadow
    · exact ⟨hs.1, rfl⟩
    · exact hs

theorem Event.laneLaw {s t : State} (h : Event s t) (hs : s.laneLaw) : t.laneLaw := by
  have free : ∀ j, s.chosenJob = some j → s.engine.running.length < 4 := fun j hj => (State.chosenJob_first hj).1
  obtain hsub | ⟨k, hk, heq⟩ | ⟨k, hk, heq⟩ | ⟨k, heq⟩ := h.running
  · exact hsub.length_le.trans hs
  · have := free _ hk
    rw [State.laneLaw, heq, List.length_append, List.length_singleton]; omega
  · have := free _ hk
    rw [State.laneLaw, heq, List.length_append, List.length_singleton]; omega
  · rw [State.laneLaw, heq, List.length_map]; exact hs

end Sys2Proof.Machine

/-! The sizes of halves, templates and write groups (R65, R89, R151). A mobile frame has at most 84 bytes, so that its group has
at most 26 words. -/
namespace Sys2Proof.Machine

/-! ### The bytes of a frame (R16, R17) -/

theorem length_packBytes (n : Nat) (bits : List Bool) (h : bits.length = 8 * n) : (packBytes bits).length = n := by
  induction n generalizing bits with
  | zero => rw [List.length_eq_zero_iff.mp h]; rfl
  | succ n ih =>
    match bits, h with
    | b7 :: b6 :: b5 :: b4 :: b3 :: b2 :: b1 :: b0 :: rest, h =>
      simp only [List.length_cons] at h
      rw [packBytes, List.length_cons, ih rest (by omega)]
    | [], h | [_], h | [_, _], h | [_, _, _], h | [_, _, _, _], h | [_, _, _, _, _], h | [_, _, _, _, _, _], h
    | [_, _, _, _, _, _, _], h => simp only [List.length_cons, List.length_nil] at h; omega

@[simp] theorem length_intBits (b : Nat) (k : Int) : (intBits b k).length = b := by simp [intBits]

theorem length_speechBody (mode : Mode) {c : SpeechCoding} (h : c.codes.length = 160) :
    (speechBody mode c).length = 2 + 20 * mode.type.bits := by
  have hbits : (c.codes.flatMap (intBits mode.type.bits)).length = 8 * (20 * mode.type.bits) := by
    simp only [List.length_flatMap, length_intBits, List.map_const', List.sum_replicate, h, smul_eq_mul]
    omega
  rw [speechBody, List.length_cons, List.length_cons, length_packBytes _ _ hbits]
  omega

theorem length_frameSamples (j : EncodeJob) : (frameSamples j).length = j.codes.length := by
  simp only [frameSamples]
  split <;> simp

theorem length_encodeSpeech {xs : List Int} (h : xs.length = 160) (mode : Mode) (recon xPrev : Int) :
    (encodeSpeech mode recon xPrev xs).codes.length = 160 ∧ (encodeSpeech mode recon xPrev xs).recons.length = 160 :=
  length_encodeBlocks_codes_recons (n := 4) (by omega) _ _ _

/-- The cases of an encode job's work (R136). -/
theorem encodeWork_cases (j : EncodeJob) :
    (∃ dtx onset, dtxStep j.hangover (frameActive j) j.enc.dtx = (dtx, .speech onset) ∧
      encodeWork j = encodeSpeechFrame j dtx onset) ∨
    (∃ dtx, dtxStep j.hangover (frameActive j) j.enc.dtx = (dtx, .sid) ∧ encodeWork j = encodeSidFrame j dtx) ∨
    ∃ dtx, dtxStep j.hangover (frameActive j) j.enc.dtx = (dtx, .nodata) ∧
      encodeWork j = { enc := { j.enc with dtx := dtx }, frame := none } := by
  unfold encodeWork
  obtain ⟨dtx, kind⟩ := dtxStep j.hangover (frameActive j) j.enc.dtx
  cases kind with
  | speech onset => exact .inl ⟨dtx, onset, rfl, rfl⟩
  | sid => exact .inr (.inl ⟨dtx, rfl, rfl⟩)
  | nodata => exact .inr (.inr ⟨dtx, rfl, rfl⟩)

/-- A frame to be sent has the bytes of its type (R16). -/
theorem encodeWork_frame_bytes {j : EncodeJob} {f : Frame} (hcodes : j.codes.length = 160) (hf : (encodeWork j).frame = some f) :
    f.bytes.length = f.type.bytes := by
  obtain ⟨dtx, onset, -, hwork⟩ | ⟨dtx, -, hwork⟩ | ⟨dtx, -, hwork⟩ := encodeWork_cases j
  · rw [hwork] at hf
    cases hf
    have hxs : (frameSamples j).length = 160 := (length_frameSamples j).trans hcodes
    simp only [Frame.bytes, List.length_cons, length_speechBody j.mode (length_encodeSpeech hxs j.mode _ _).1]
    cases j.mode <;> rfl
  · rw [hwork] at hf
    cases hf
    rfl
  · rw [hwork] at hf
    cases hf

theorem FrameType.bytes_le (t : FrameType) : t.bytes ≤ 84 := by cases t <;> decide

theorem State.egressGroup_size (s : State) {j : EncodeJob} {f : Frame} (hj : Running.sized (.encode j))
    (hf : (encodeWork j).frame = some f) : (s.egressGroup j f).size ≤ 26 := by
  obtain ⟨hcodes, htmpl⟩ := hj
  have hbytes := encodeWork_frame_bytes hcodes hf
  have htype := f.type.bytes_le
  have htake' : (j.tmpl.take j.tmplLen).length ≤ j.tmpl.length := List.length_take_le' ..
  simp only [State.egressGroup, Group.size, length_groupOrder, egressSlotBytes, List.length_append, List.length_cons,
    List.length_nil, hbytes]
  omega

/-! ### The size law -/

/-- The halves and the template of a record have their sizes (R65, R89). -/
def Context.sized (c : Context) : Prop :=
  c.half0.codes.length = 160 ∧ c.half1.codes.length = 160 ∧ c.cfg.tmpl.length ≤ 8

theorem Context.sized_cleared : Context.cleared.sized := ⟨rfl, rfl, Nat.le_refl 8⟩

theorem RecordEvent.sized {s : State} {k : Nat} {d : Context} (h : RecordEvent s k d) (hs : (s.ctx k).sized) : d.sized := by
  have hcfg : ∀ c d : Context, c.sized → d.half0.codes.length = c.half0.codes.length →
      d.half1.codes.length = c.half1.codes.length → d.cfg.tmpl.length ≤ 8 → d.sized := fun c d hc h0 h1 ht =>
    ⟨h0.trans hc.1, h1.trans hc.2.1, ht⟩
  cases h with
  | touch _ _ h => exact hcfg (s.ctx k) d hs h.half0 h.half1 (by rw [h.frame]; exact hs.2.2)
  | swap | started | answered | encoded | freed | decoded | closed => exact hs
  | requeued _ _ _ _ h => exact hcfg (s.ctx k) d hs (by rw [h.frame]) (by rw [h.frame]) (h.tmpl hs.2.2)
  | opened => exact ⟨by simp [Context.opened, Half.opened, silenceCodes], by simp [Context.opened, Half.opened, silenceCodes],
      (readAdjustable_tmpl ..).le⟩

theorem Group.size_moveBack (ne : Nat) (g : Group) : (g.moveBack ne).size = g.size := by
  cases g <;> rfl

/-- R175: START's index reset group joins the tail of the order. -/
theorem State.startEffect_waiting (s : State) : s.startEffect.pwq.waiting =
    s.pwq.waiting ++ [({ s with part := s.startedPart } : State).indexResetGroup] := by
  show (State.examineReady _).pwq.waiting = _
  rw [State.examineReady_erw]
  rfl

/-- What holds of every waiting group, of those requested and of those moved back, holds of every waiting group after. -/
theorem Event.forall_waiting {P : Group → Prop} {s t : State} (h : Event s t) (hs : ∀ g ∈ s.pwq.waiting, P g)
    (hnotice : ∀ g : Group, g.smallNotice → P g) (hstatus : ∀ w, P (.status w)) (hreset : ∀ u : State, P u.indexResetGroup)
    (hqueued : ∀ j f, Running.encode j ∈ s.engine.running → (s.ctx j.ctx).state = .active → (encodeWork j).frame = some f →
      P (s.egressGroup j f)) (hback : ∀ g, P g → P (g.moveBack s.win.ne)) : ∀ g ∈ t.pwq.waiting, P g := by
  have append : ∀ gs : List Group, (∀ g ∈ gs, P g) → ∀ g ∈ s.pwq.waiting ++ gs, P g := fun gs hgs =>
    List.forall_mem_append.mpr ⟨hs, hgs⟩
  have fill : ∀ u, Refill s u → ∀ g ∈ u.pwq.waiting, P g := by
    intro u hfill
    obtain ⟨gs, heq, hgs⟩ := hfill.groups
    rw [heq]
    exact append gs fun g hg => hnotice g (hgs g hg)
  have rest : ∀ g rest, s.pwq.waiting = g :: rest → ∀ g ∈ rest, P g := fun g rest hw i hi =>
    hs i (by rw [hw]; exact List.mem_cons_of_mem _ hi)
  cases h with
  | port | touch | fetchUnit | ingressClock | egressClock | timeout | noticeConsumer | withdrawEncode | requestEncode | swap
  | startEncode | encoded | encodeDone | decoded | decodeDropped | handover | stop => exact hs
  | status w => exact append [.status w] (by simpa using hstatus w)
  | notice _ hfill => exact fill _ hfill
  | egressConsumer => rw [State.egressConsumer_eq]; exact hs
  | startDecode k =>
    obtain ⟨u, hfill, -, heq⟩ := s.startDecode_refill k
    rw [heq]
    exact fill u hfill
  | queued j f hj _ hactive hf => exact append [_] (by simpa using hqueued j f hj hactive hf)
  | admitPlain g l hw => exact rest g l hw
  | admitNotice ws l hw => exact rest _ l hw
  | admitEgress k slot ws l hw =>
    rw [State.examineReady_erw]
    exact rest _ l hw
  | discard k slot ws l hw => exact List.forall_mem_map.mpr fun g hg => hback g (rest _ l hw g hg)
  | requeue u k d hfill => exact fill u hfill
  | openContext k => rw [State.openEffect_eq]; exact hs
  | close k tag hactive =>
    rw [State.closeEffect_eq tag (s.lt_length_of_active hactive)]
    exact fill (s.returnEach (s.ctx k).playout) (s.returnEach_refill _)
  | start =>
    show ∀ g ∈ s.startEffect.pwq.waiting, P g
    rw [State.startEffect_waiting]
    exact append [_] (by simpa using hreset _)
  | clear => exact fun g hg => hs g (List.mem_of_mem_filter hg)
  | reset => exact fun g hg => by cases hg

/-- Groups that an event adds to the order, or keeps in it, are small. -/
theorem Event.groupsSmall {s t : State} (h : Event s t) (hr : ∀ r ∈ s.engine.running, r.sized) (hs : s.groupsSmall) :
    t.groupsSmall := by
  refine h.forall_waiting hs ?_ (fun _ => (by decide : 1 ≤ 26)) (fun _ => (by decide : 4 ≤ 26))
    (fun j f hj _ hf => s.egressGroup_size (hr _ hj) hf) fun g hg => ?_
  · rintro g ⟨ws, rfl, hws⟩
    exact hws
  · rw [Group.size_moveBack]
    exact hg

theorem Event.sizeLaw {s t : State} (h : Event s t) (hs : s.sizeLaw) : t.sizeLaw := by
  obtain ⟨hrecords, hrunning, hgroups⟩ := hs
  have hctx := State.ctx_of_forall (P := Context.sized) hrecords Context.sized_cleared
  refine ⟨?records, ?running, h.groupsSmall hrunning hgroups⟩
  case records =>
    exact h.forall_ctxs (P := Context.sized) hrecords (fun k d hd => hd.sized) (fun _ => id) Context.sized_cleared
  case running =>
    refine h.forall_running hrunning (fun k _ => ?_) (fun _ _ => trivial) fun k r hr => ?_
    · refine ⟨?_, (hctx k).2.2⟩
      simp only [State.encodeCopies, Context.fullHalf]
      split
      · exact (hctx k).1
      · exact (hctx k).2.1
    · cases r with
      | encode j =>
        simp only [Running.marked]
        split
        · exact hr
        · exact hr
      | decode j => trivial

/-- Settles O52: each event keeps the queue, the memories and the fetch unit lawful, the lanes at most four and the sizes. -/
theorem blockLawsKept : Obligations.BlockLawsKept := by
  intro s t hstep
  refine ⟨?queue, ?lanes, ?memory, ?fetch, ?sizes⟩
  case queue => exact step_keeps_of_event (P := State.queueLaw) (fun _ _ h => h.storageLaws.1) hstep
  case lanes => exact step_keeps_of_event (P := State.laneLaw) (fun _ _ h => h.laneLaw) hstep
  case memory => exact step_keeps_of_event (P := State.memoryLaw) (fun _ _ h => h.storageLaws.2.1) hstep
  case fetch => exact step_keeps_of_event (P := State.fetchLaw) (fun _ _ h => h.storageLaws.2.2) hstep
  case sizes => exact step_keeps_of_event (P := State.sizeLaw) (fun _ _ h => h.sizeLaw) hstep

end Sys2Proof.Machine

/-! The ranges of the coder's values (R1, R21, R30, R51): what encoding and decoding a frame leaves in a record lies in them. -/
namespace Sys2Proof.Machine

/-! ### Linear values -/

theorem forall_getLastD {α : Type} {P : α → Prop} {l : List α} {a : α} (hl : ∀ x ∈ l, P x) (ha : P a) : P (l.getLastD a) :=
  List.forall_mem_cons.mpr ⟨ha, hl⟩ _ (List.getLastD_mem_cons ..)

theorem linear_zero : Linear 0 := ⟨by decide, by decide⟩

theorem expand_linear (law : Law) (c : Byte) : Linear (expand law c) := by
  obtain ⟨negative, e, m, he, hm, hc⟩ := exists_fieldsCode law c
  have hhigh := intervalHigh_le_largestMagnitude law he hm
  have hin := (reconstruction_inInterval law e m).2
  have hlargest : largestMagnitude law ≤ 32767 := by cases law <;> decide
  rw [hc, expand_fieldsCode he hm law negative]
  split <;> constructor <;> omega

theorem shiftRight_linear {x : Int} (hx : Linear x) (n : Nat) : Linear (shiftRight x n) := by
  have hpow : (0 : Int) < 2 ^ n := by positivity
  obtain ⟨hlow, hhigh⟩ := hx
  have hone : (1 : Int) ≤ 2 ^ n := hpow
  constructor
  · exact (Int.le_ediv_iff_mul_le hpow).mpr (by nlinarith)
  · exact Int.ediv_le_of_le_mul hpow (by nlinarith)

theorem frameSamples_linear (j : EncodeJob) : ∀ x ∈ frameSamples j, Linear x := by
  have hall : ∀ x ∈ j.codes.map (expand j.law), Linear x := List.forall_mem_map.mpr fun c _ => expand_linear j.law c
  simp only [frameSamples]
  split
  · exact List.forall_mem_map.mpr fun x hx => shiftRight_linear (hall x hx) _
  · exact hall

theorem quantiseAll_linear (l delta : Nat) (recon : Int) (xs : List Int) :
    ∀ r ∈ (quantiseAll l delta recon xs).map Prod.snd, Linear r := by
  induction xs generalizing recon with
  | nil => simp [quantiseAll]
  | cons x xs ih => exact List.forall_mem_cons.mpr ⟨reconstruct_linear .., ih _⟩

theorem encodeBlocks_linear (l n : Nat) (recon prev : Int) (xs : List Int) :
    ∀ r ∈ (encodeBlocks l n recon prev xs).recons, Linear r := by
  induction n generalizing recon prev xs with
  | zero => simp [encodeBlocks]
  | succ n ih => exact List.forall_mem_append.mpr ⟨quantiseAll_linear _ _ _ _, ih _ _ _⟩

theorem encodeSpeech_linear (mode : Mode) (recon xPrev : Int) (xs : List Int) :
    ∀ r ∈ (encodeSpeech mode recon xPrev xs).recons, Linear r := encodeBlocks_linear _ _ _ _ _

theorem decodeBlock_linear (delta : Nat) (recon : Int) (ks : List Int) : ∀ r ∈ decodeBlock delta recon ks, Linear r := by
  induction ks generalizing recon with
  | nil => simp [decodeBlock]
  | cons k ks ih => exact List.forall_mem_cons.mpr ⟨reconstruct_linear .., ih _⟩

theorem decodeBlocks_linear (qs : List Nat) (recon : Int) (ks : List Int) : ∀ r ∈ decodeBlocks qs recon ks, Linear r := by
  induction qs generalizing recon ks with
  | nil => simp [decodeBlocks]
  | cons q qs ih => exact List.forall_mem_append.mpr ⟨decodeBlock_linear _ _ _, ih _ _⟩

theorem decodeSpeech_linear (type : FrameType) (recon : Int) (body : List Byte) :
    ∀ r ∈ decodeSpeech type recon body, Linear r := by
  unfold decodeSpeech
  exact decodeBlocks_linear _ _ _

/-! ### The generator (R30) -/

theorem genStep_toNat (g : BitVec 16) : (genStep g).toNat =
    g.toNat / 2 + if ((g.getLsbD 0 ^^ g.getLsbD 2) ^^ (g.getLsbD 3 ^^ g.getLsbD 5)) then 32768 else 0 := by
  have := g.isLt
  simp only [genStep, BitVec.toNat_ofNat]
  split <;> omega

/-- R30: of the values that would shift to 0, only 0 feeds back no bit. -/
theorem genStep_ne_zero {g : BitVec 16} (h : g ≠ 0) : genStep g ≠ 0 := by
  intro hzero
  have hstep := genStep_toNat g
  rw [hzero] at hstep
  have hone : g.toNat = 1 := by
    have : g.toNat ≠ 0 := fun h0 => h (BitVec.eq_of_toNat_eq h0)
    have : (0 : BitVec 16).toNat = 0 := rfl
    omega
  obtain rfl : g = 1 := BitVec.eq_of_toNat_eq hone
  exact absurd hzero (by decide)

theorem comfortNoise_gen_ne_zero (level n : Nat) {g : BitVec 16} (h : g ≠ 0) : (comfortNoise level n g).2 ≠ 0 := by
  induction n generalizing g with
  | zero => exact h
  | succ n ih => exact ih (genStep_ne_zero h)

/-- R21: the seed of no context is 0. -/
theorem seed_ne_zero {k : Nat} (hk : k < 384) : (0x4A5D#16 ^^^ BitVec.ofNat 16 k) ≠ 0 := by
  intro h
  have heq := congrArg BitVec.toNat (BitVec.xor_eq_zero_iff.mp h)
  simp only [BitVec.toNat_ofNat] at heq
  omega

/-! ### What a job's work leaves -/

theorem dtxStep_inRange {h : Nat} (hh : h ≤ 15) (active : Bool) {d : DtxState} (hd : d.inRange) : (dtxStep h active d).1.inRange := by
  cases d with
  | speech => 
    simp only [dtxStep]
    split_ifs <;> simp [DtxState.inRange, hh]
  | hangover c =>
    have hc : c ≤ 15 := hd
    simp only [dtxStep]
    split_ifs
    · trivial
    · exact Nat.le_refl 7
    · exact (Nat.sub_le c 1).trans hc
  | silent n =>
    have hn : n ≤ 7 := hd
    simp only [dtxStep]
    split_ifs
    · trivial
    · exact Nat.le_refl 7
    · exact (Nat.sub_le n 1).trans hn

theorem encodeWork_inRange {j : EncodeJob} (h : Running.inRange (.encode j)) : (encodeWork j).enc.inRange := by
  obtain ⟨⟨hrecon, hprev, hdtx⟩, hhangover⟩ := h
  have hstep := dtxStep_inRange hhangover (frameActive j) hdtx
  obtain ⟨dtx, onset, hd, hwork⟩ | ⟨dtx, hd, hwork⟩ | ⟨dtx, hd, hwork⟩ := encodeWork_cases j
  · rw [hd] at hstep
    rw [hwork]
    have hzero : ∀ x : Int, Linear x → Linear (if onset then 0 else x) := by
      intro x hx
      split
      · exact linear_zero
      · exact hx
    exact ⟨forall_getLastD (encodeSpeech_linear _ _ _ _) (hzero _ hrecon), forall_getLastD (frameSamples_linear j) (hzero _ hprev), hstep⟩
  · rw [hd] at hstep
    rw [hwork]
    exact ⟨hrecon, hprev, hstep⟩
  · rw [hd] at hstep
    rw [hwork]
    exact ⟨hrecon, hprev, hstep⟩

theorem newLatest_range {request latest : Nat} (hr : request ≤ 3) (hl : 1 ≤ latest ∧ latest ≤ 3) :
    1 ≤ newLatest request latest ∧ newLatest request latest ≤ 3 := by
  unfold newLatest
  split <;> omega

theorem decodeWork_inRange {j : DecodeJob} (h : Running.inRange (.decode j)) :
    (decodeWork j).dec.inRange ∧ (decodeWork j).dec.seeded := by
  obtain ⟨⟨hrecon, hloss, hcomfort, hlatest⟩, ⟨hgen, hlatest'⟩, hrequest⟩ := h
  unfold decodeWork
  split
  · rename_i e he
    have hnew := newLatest_range (hrequest e he) ⟨hlatest', hlatest⟩
    split
    · exact ⟨⟨linear_zero, Nat.zero_le _, Nat.min_le_right .., hnew.2⟩, comfortNoise_gen_ne_zero _ _ hgen, hnew.1⟩
    · have hout : Linear ((decodeSpeech e.type (if e.onset then 0 else j.dec.recon) e.body).getLastD j.dec.recon) :=
        forall_getLastD (decodeSpeech_linear _ _ _) hrecon
      simp only [decodeSpeechFrame]
      generalize decodeSpeech e.type (if e.onset then 0 else j.dec.recon) e.body = out at hout
      exact ⟨⟨hout, Nat.zero_le _, hcomfort, hnew.2⟩, hgen, hnew.1⟩
  · split
    · exact ⟨⟨hrecon, hloss, hcomfort, hlatest⟩, hgen, hlatest'⟩
    · exact ⟨⟨expand_linear .., Nat.min_le_right .., hcomfort, hlatest⟩, hgen, hlatest'⟩
    · exact ⟨⟨hrecon, hloss, hcomfort, hlatest⟩, comfortNoise_gen_ne_zero _ _ hgen, hlatest'⟩

end Sys2Proof.Machine

/-! What the maps, the tags and the job queue go by: which contexts are ACTIVE, and where their configuration puts them. Most
events leave all of it. -/
namespace Sys2Proof.Machine

/-- The captured fields by which a context stands in the maps (R80, R81, R119). -/
def Captured.route (c : Captured) : Bool × Bool × Nat × Nat × Nat := (c.uplink, c.downlink, c.inSlot, c.outSlot, c.tag)

theorem Captured.route_eq_iff {c d : Captured} : d.route = c.route ↔
    d.uplink = c.uplink ∧ d.downlink = c.downlink ∧ d.inSlot = c.inSlot ∧ d.outSlot = c.outSlot ∧ d.tag = c.tag := by
  simp [Captured.route]

/-- The same contexts are ACTIVE, in the same places of the same maps, and a job is pending only for one that is. -/
structure SameCalls (s t : State) : Prop where
  length : t.ctxs.length = s.ctxs.length
  active : ∀ k, (t.ctx k).state = .active ↔ (s.ctx k).state = .active
  route : ∀ k, (t.ctx k).cfg.route = (s.ctx k).cfg.route
  tsm : t.tsm = s.tsm
  tags : t.tags = s.tags
  jobs : ∀ j ∈ t.engine.jobs, j ∈ s.engine.jobs ∨ (s.ctx j.ctx).state = .active

section
variable {s t : State}

theorem SameCalls.of_ctxs (h : t.ctxs = s.ctxs) (htsm : t.tsm = s.tsm) (htags : t.tags = s.tags)
    (hjobs : ∀ j ∈ t.engine.jobs, j ∈ s.engine.jobs ∨ (s.ctx j.ctx).state = .active) : SameCalls s t := by
  have hctx : ∀ k, t.ctx k = s.ctx k := fun k => by rw [State.ctx, h]; rfl
  exact ⟨by rw [h], fun k => by rw [hctx], fun k => by rw [hctx], htsm, htags, hjobs⟩

theorem SameCalls.of_set {k : Nat} {d : Context} (h : t.ctxs = s.ctxs.set k d)
    (hactive : d.state = .active ↔ (s.ctx k).state = .active) (hroute : d.cfg.route = (s.ctx k).cfg.route)
    (htsm : t.tsm = s.tsm) (htags : t.tags = s.tags)
    (hjobs : ∀ j ∈ t.engine.jobs, j ∈ s.engine.jobs ∨ (s.ctx j.ctx).state = .active) : SameCalls s t := by
  have hctx : ∀ i, t.ctx i = if i = k ∧ k < s.ctxs.length then d else s.ctx i := fun i => by
    rw [← s.ctx_setCtx k i d, State.ctx, h]; rfl
  refine ⟨by rw [h, List.length_set], fun i => ?_, fun i => ?_, htsm, htags, hjobs⟩
  · rw [hctx]
    split
    · rename_i hi
      rw [hi.1, hactive]
    · rfl
  · rw [hctx]
    split
    · rename_i hi
      rw [hi.1, hroute]
    · rfl

theorem Context.freed_active {c : Context} : c.freed.state = .active ↔ c.state = .active := by
  unfold Context.freed
  dsimp only
  split
  · rename_i h
    simp [h.1]
  · rfl

/-- An event leaves the calls as they are, or it is an OPEN, a HANDOVER, a CLOSE, a CLEAR or a reset. -/
theorem Event.calls (h : Event s t) :
    SameCalls s t ∨ (∃ k, k < 384 ∧ s.openRefusal k = none ∧ t = s.openEffect k) ∨
      (∃ k, s.handoverRefusal k = none ∧ t = s.handoverEffect k) ∨
      (∃ k tag, (s.ctx k).state = .active ∧ t = s.closeEffect k tag) ∨ t = s.clearEffect ∨
      ∃ c m shadow, t = { State.afterReset c m shadow s.mem with
        openReads := s.openReads, fitted := s.fitted, pending := s.pending } := by
  have sub : ∀ {l : List Job}, (∀ j ∈ l, j ∈ s.engine.jobs) → ∀ j ∈ l, j ∈ s.engine.jobs ∨ (s.ctx j.ctx).state = .active :=
    fun hl j hj => .inl (hl j hj)
  have all := sub fun _ (hj : _ ∈ s.engine.jobs) => hj
  have filtered := fun p => sub (l := s.engine.jobs.filter p) fun j hj => List.mem_of_mem_filter hj
  have appended : ∀ i : Job, (s.ctx i.ctx).state = .active →
      ∀ j ∈ s.engine.jobs ++ [i], j ∈ s.engine.jobs ∨ (s.ctx j.ctx).state = .active := fun i hi j hj => by
    rcases List.mem_append.mp hj with hj | hj
    · exact .inl hj
    · rw [List.mem_singleton.mp hj]
      exact .inr hi
  cases h with
  | port | status | fetchUnit | ingressClock | egressClock | timeout | noticeConsumer | queued | admitPlain | admitNotice | stop =>
    exact .inl (.of_ctxs rfl rfl rfl all)
  | egressConsumer =>
    rw [State.egressConsumer_eq]
    exact .inl (.of_ctxs rfl rfl rfl all)
  | start =>
    rw [State.startEffect_eq]
    exact .inl (.of_ctxs rfl rfl rfl all)
  | notice _ h =>
    rw [h.frame]
    exact .inl (.of_ctxs rfl rfl rfl all)
  | withdrawEncode => exact .inl (.of_ctxs rfl rfl rfl (filtered _))
  | requestEncode k hactive => exact .inl (.of_ctxs rfl rfl rfl (appended _ hactive))
  | touch k d h => 
    have hd := h.frame
    exact .inl (.of_set (k := k) (d := d) rfl (by rw [hd]) (by rw [hd]) rfl rfl all)
  | swap k hactive => exact .inl (.of_set (k := k) rfl Iff.rfl rfl rfl rfl (appended _ hactive))
  | startEncode k => exact .inl (.of_set (k := k) rfl Iff.rfl rfl rfl rfl (filtered _))
  | startDecode k =>
    obtain ⟨u, hfill, -, heq⟩ := s.startDecode_refill k
    rw [heq]
    exact .inl (.of_set (k := k) rfl Iff.rfl rfl rfl rfl (filtered _))
  | encoded j => exact .inl (.of_set (k := j.ctx) rfl Iff.rfl rfl rfl rfl all)
  | encodeDone j => exact .inl (.of_set (k := j.ctx) rfl Context.freed_active rfl rfl rfl all)
  | decoded j =>
    rw [State.freeLane_modCtx]
    exact .inl (.of_set (k := j.ctx) rfl Iff.rfl rfl rfl rfl all)
  | decodeDropped j => exact .inl (.of_set (k := j.ctx) rfl Context.freed_active rfl rfl rfl all)
  | admitEgress k =>
    rw [State.examineReady_erw]
    exact .inl (.of_set (k := k) rfl Context.freed_active rfl rfl rfl all)
  | discard k => exact .inl (.of_set (k := k) rfl Context.freed_active rfl rfl rfl all)
  | requeue u k d hfill h =>
    have hd := h.frame
    have hroute : d.cfg.route = (s.ctx k).cfg.route := by rw [h.cfg]; rfl
    refine .inl (.of_set (k := k) (d := d) (congrArg (List.set · k d) hfill.ctxs) (by rw [hd]) hroute ?_ ?_ ?_)
    · rw [hfill.frame]; rfl
    · rw [hfill.frame]; rfl
    · rw [hfill.frame]; exact all
  | openContext k hk h => exact .inr (.inl ⟨k, hk, h, rfl⟩)
  | handover k h => exact .inr (.inr (.inl ⟨k, h, rfl⟩))
  | close k tag hactive => exact .inr (.inr (.inr (.inl ⟨k, tag, hactive, rfl⟩)))
  | clear => exact .inr (.inr (.inr (.inr (.inl rfl))))
  | reset c m shadow => exact .inr (.inr (.inr (.inr (.inr ⟨c, m, shadow, rfl⟩))))

end

end Sys2Proof.Machine

/-! Counters, detectors, coder values, clocks and indices stay in range, record by record and job by job. -/
namespace Sys2Proof.Machine

/-! ### Counters and replay levels (R69, R107) -/

/-- The replay level and the counters of a record lie in range. -/
def Context.counted (c : Context) : Prop := c.replay ≤ 4 ∧ ∀ n ∈ c.counters.list, n ≤ 65535

theorem Counters.zero_bounded : ∀ n ∈ Counters.zero.list, n ≤ 65535 := by simp [Counters.bounded_iff, Counters.zero]

theorem Context.counted_cleared : Context.cleared.counted := ⟨Nat.zero_le 4, Counters.zero_bounded⟩

theorem RecordEvent.counted {s : State} {k : Nat} {d : Context} (h : RecordEvent s k d) (hs : (s.ctx k).counted) : d.counted := by
  obtain ⟨hreplay, hcounters⟩ := hs
  cases h with
  | touch _ _ h => exact ⟨h.replay hreplay, h.counters hcounters⟩
  | swap => exact ⟨Nat.zero_le 4, hcounters⟩
  | started | answered | encoded | freed | closed => exact ⟨hreplay, hcounters⟩
  | decoded j =>
    refine ⟨hreplay, ?_⟩
    rw [Counters.bounded_iff] at hcounters ⊢
    simp only [Context.freed, Context.takeDecoded]
    split
    · simp [hcounters, satInc_le]
    · exact hcounters
  | requeued _ _ _ _ h => exact ⟨by rw [h.frame]; exact hreplay, h.counters hcounters⟩
  | opened => exact ⟨Nat.zero_le 4, Counters.zero_bounded⟩

theorem Event.counterLaw {s t : State} (h : Event s t) (hs : s.counterLaw) : t.counterLaw :=
  h.forall_ctxs (P := Context.counted) hs (fun _ _ hd => hd.counted) (fun _ hc => ⟨hc.1, Counters.zero_bounded⟩)
    Context.counted_cleared

/-! ### Detectors (R39, R44) -/

theorem Detector.bounded_opened : Detector.opened.bounded := by decide

theorem Detector.bounded_stepAll (cfg : Captured) (codes : List Byte) {d : Detector} (h : d.bounded) :
    (d.stepAll cfg codes).bounded := by
  induction codes generalizing d with
  | nil => exact h
  | cons c codes ih => exact ih (Detector.bounded_step cfg (magnitudeIndex_le _ _) h)

theorem RecordEvent.detected {s : State} {k : Nat} {d : Context} (h : RecordEvent s k d)
    (hs : (s.ctx k).inDet.bounded ∧ (s.ctx k).outDet.bounded) : d.inDet.bounded ∧ d.outDet.bounded := by
  cases h with
  | touch _ _ h => exact ⟨h.inDet hs.1, by rw [h.frame]; exact hs.2⟩
  | swap | started | answered | encoded | freed | closed => exact hs
  | decoded j => exact ⟨hs.1, Detector.bounded_stepAll _ _ hs.2⟩
  | requeued _ _ _ _ h => rw [h.frame]; exact hs
  | opened => exact ⟨Detector.bounded_opened, Detector.bounded_opened⟩

theorem Event.detectorLaw {s t : State} (h : Event s t) (hs : s.detectorLaw) : t.detectorLaw :=
  h.forall_ctxs (P := fun c => c.inDet.bounded ∧ c.outDet.bounded) hs (fun _ _ hd => hd.detected) (fun _ => id)
    (by decide)

/-! ### Configuration, coder and DTX state (R21, R51, R89) -/

/-- The clauses of the coder law that hold of one record. -/
def Context.coded (c : Context) : Prop :=
  c.cfg.inRange ∧ c.enc.inRange ∧ c.dec.inRange ∧ (c.state ≠ .closed → c.dec.seeded) ∧ ∀ e ∈ c.playout, e.request ≤ 3

theorem Context.coded_cleared : Context.cleared.coded := by
  refine ⟨by decide, ⟨linear_zero, linear_zero, Nat.zero_le 7⟩, by decide, fun h => absurd rfl h, ?_⟩
  simp [Context.cleared]

theorem Context.freed_of_closed {c : Context} (h : c.state = .closed) : c.freed.state = .closed := by
  simp [Context.freed, h]

theorem Event.length {s t : State} (h : Event s t) (hs : s.ctxs.length = 384) : t.ctxs.length = 384 := by
  obtain heq | ⟨k, d, heq, -⟩ | heq | heq := h.records
  · rw [heq, hs]
  · rw [heq, List.length_set, hs]
  · rw [heq, List.length_map, hs]
  · rw [heq, List.length_replicate]

theorem RecordEvent.coded {s : State} {k : Nat} {d : Context} (h : RecordEvent s k d) (hr : ∀ r ∈ s.engine.running, r.inRange)
    (hs : (s.ctx k).coded) : d.coded := by
  have hall := hs
  obtain ⟨hcfg, henc, hdec, hseeded, hrequests⟩ := hs
  cases h with
  | touch _ _ h => rw [h.frame]; exact hall
  | swap | started => exact hall
  | answered =>
    refine ⟨hcfg, henc, hdec, hseeded, fun e he => hrequests e ?_⟩
    simp only [Context.startJob, Context.takeFront] at he
    split at he
    · exact he
    · exact List.mem_of_mem_filter he
  | encoded j hj => exact ⟨hcfg, encodeWork_inRange (hr _ hj), hdec, hseeded, hrequests⟩
  | freed => exact ⟨hcfg, henc, hdec, fun h => hseeded fun hc => h (Context.freed_of_closed hc), hrequests⟩
  | decoded j hj =>
    obtain ⟨hrange, hseed⟩ := decodeWork_inRange (hr _ hj)
    exact ⟨hcfg, henc, hrange, fun _ => hseed, hrequests⟩
  | requeued _ _ _ _ h =>
    refine ⟨h.inRange hcfg, ?_, ?_, ?_, h.requests hrequests⟩
    · rw [h.frame]; exact henc
    · rw [h.frame]; exact hdec
    · rw [h.frame]; exact hseeded
  | opened _ hk =>
    exact ⟨readCaptured_inRange .., ⟨linear_zero, linear_zero, Nat.zero_le 7⟩,
      ⟨linear_zero, Nat.zero_le 4, Nat.zero_le 47, Nat.le_refl 3⟩, fun _ => ⟨seed_ne_zero hk, (by decide : 1 ≤ 3)⟩,
      fun e he => by cases he⟩
  | closed _ tag hactive =>
    exact ⟨hcfg, henc, hdec, fun _ => hseeded (by simp [hactive]), fun e he => by cases he⟩

theorem State.playoutAnswer_mem {s : State} {k : Nat} {e : PlayEntry} (h : s.playoutAnswer k = some e) :
    e ∈ (s.ctx k).playout := by
  obtain ⟨x, -, hx⟩ := Option.bind_eq_some_iff.mp h
  exact List.mem_of_find?_eq_some hx

/-- R91, R132: a job is pending for an ACTIVE context alone, whatever the event. -/
theorem Event.jobs_active {s t : State} (h : Event s t) (hlen : s.ctxs.length = 384)
    (hs : ∀ j ∈ s.engine.jobs, (s.ctx j.ctx).state = .active) : ∀ j ∈ t.engine.jobs, (t.ctx j.ctx).state = .active := by
  obtain hsame | ⟨k, hk, -, rfl⟩ | ⟨k, -, rfl⟩ | ⟨k, tag, hactive, rfl⟩ | rfl | ⟨c, m, shadow, rfl⟩ := h.calls
  · exact fun j hj => (hsame.active _).mpr ((hsame.jobs j hj).elim (hs j) id)
  · rw [State.openEffect_eq]
    have hctx : ∀ i, (i = k ∨ (s.ctx i).state = .active) →
        ((s.setCtx k ((s.ctx k).opened k (readCaptured s.shadow k))).ctx i).state = .active := by
      intro i hi
      rw [State.ctx_setCtx]
      split
      · rfl
      · rename_i hne
        exact hi.resolve_left fun e => hne ⟨e, hlen ▸ hk⟩
    intro j hj
    refine hctx j.ctx ?_
    change j ∈ (if (readCaptured s.shadow k).downlink then s.engine.jobs ++ [Job.mk k .decode] else s.engine.jobs) at hj
    split at hj
    · rcases List.mem_append.mp hj with hj | hj
      · exact .inr (hs j hj)
      · rw [List.mem_singleton.mp hj]
        exact .inl rfl
    · exact .inr (hs j hj)
  · exact hs
  · rw [State.closeEffect_eq tag (s.lt_length_of_active hactive)]
    intro j hj
    obtain ⟨hj, hne⟩ := List.mem_filter.mp hj
    have hother := s.ctx_setCtx_of_ne ((s.ctx k).closedBy tag) (by simpa using hne)
    exact (congrArg Context.state hother).trans (hs j hj)
  · exact fun j hj => by cases hj
  · exact fun j hj => by cases hj

theorem Event.coderLaw {s t : State} (h : Event s t) (hs : s.coderLaw) : t.coderLaw := by
  obtain ⟨hlen, hrecords, hrunning, hjobs⟩ := hs
  have hctx := State.ctx_of_forall (P := Context.coded) hrecords Context.coded_cleared
  refine ⟨h.length hlen, ?records, ?running, h.jobs_active hlen hjobs⟩
  case records =>
    exact h.forall_ctxs (P := Context.coded) hrecords (fun k d hd => hd.coded hrunning)
      (fun c hc => ⟨hc.1, hc.2.1, hc.2.2.1, fun h => absurd rfl h, fun e he => by cases he⟩) Context.coded_cleared
  case running =>
    refine h.forall_running hrunning (fun k hk => ?_) (fun k hk => ?_) fun k r hr => ?_
    · obtain ⟨hcfg, henc, -⟩ := hctx k
      exact ⟨henc, hcfg.2.2.2.2.1⟩
    · obtain ⟨-, -, hdec, hseeded, hrequests⟩ := hctx k
      have hactive := hjobs _ (State.chosenJob_first hk).2.1.1
      exact ⟨hdec, hseeded (by simp [hactive]), fun e he => hrequests e (State.playoutAnswer_mem he)⟩
    · cases r with
      | encode j =>
        simp only [Running.marked]
        split
        · exact hr
        · exact hr
      | decode j => exact hr

/-! ### Clocks, grant counters, the quiet timer and the ring indices (R60, R148, R159, R167, R169) -/

section
variable {s : State}

@[simp] theorem State.examineReady_indices (s : State) : s.examineReady.erw.producer = s.erw.producer ∧
    s.examineReady.erw.consumer = s.erw.consumer ∧ s.examineReady.erw.waiting = s.erw.waiting := by
  unfold State.examineReady
  split <;> exact ⟨rfl, rfl, rfl⟩

theorem Windows.rangesOk_iff {w : Windows} : w.rangesOk = true ↔
    w.slots % 32 = 0 ∧ 32 ≤ w.slots ∧ w.slots ≤ 512 ∧ 8 ≤ w.frames ∧ w.frames ≤ 64 ∧ 2 ≤ w.ni ∧ w.ni ≤ 4096 ∧
      2 ≤ w.ne ∧ w.ne ≤ 4096 ∧ 2 ≤ w.nn ∧ w.nn ≤ 4096 := by
  simp only [Windows.rangesOk, Bool.and_eq_true, decide_eq_true_eq, and_assoc]

/-- R174: a START that is accepted finds the part IDLE and a layout that passes its checks. -/
theorem State.startRefusal_eq_none (h : s.startRefusal = none) :
    s.part.state = .idle ∧ s.layoutOk (readWindows s.shadow) = true := by
  unfold State.startRefusal at h
  split_ifs at h with hrunning hlayout
  refine ⟨?_, hlayout⟩
  cases hstate : s.part.state with
  | idle => rfl
  | running => exact absurd hstate hrunning

theorem State.layoutOk_ranges {w : Windows} (h : s.layoutOk w = true) : w.rangesOk = true := by
  simp only [State.layoutOk, Bool.and_eq_true] at h
  exact h.1.1.1

end

theorem Event.rangeLaw {s t : State} (h : Event s t) (hs : s.rangeLaw) : t.rangeLaw := by
  have hlaw := hs
  obtain ⟨hin, hout, hdrain, hfetch, htimer, hrunning⟩ := hs
  have hmod : ∀ n m, s.win.rangesOk = true → n = s.win.ne ∨ n = s.win.nn → m % n < n := by
    intro n m hok hn
    have := Windows.rangesOk_iff.mp hok
    exact Nat.mod_lt _ (by omega)
  cases h with
  | touch | status | fetchUnit | timeout | withdrawEncode | requestEncode | swap | startEncode | encoded | queued | encodeDone
  | decoded | decodeDropped | admitPlain | discard | handover => exact hlaw
  | port _ _ _ _ _ _ _ _ _ _ hdrain' hfetch' => exact ⟨hin, hout, hdrain' hdrain, hfetch' hfetch, htimer, hrunning⟩
  | notice _ h => rw [h.frame]; exact hlaw
  | ingressClock f steps hf =>
    refine ⟨Nat.mod_lt _ (by decide), hout, hdrain, hfetch, Nat.min_le_left .., fun h => ?_⟩
    obtain ⟨hok, -, hrest⟩ := hrunning h
    exact ⟨hok, hf, hrest⟩
  | egressClock f steps hf =>
    refine ⟨hin, Nat.mod_lt _ (by decide), hdrain, hfetch, htimer, fun h => ?_⟩
    obtain ⟨hok, hinFrame, -, hrest⟩ := hrunning h
    exact ⟨hok, hinFrame, hf, hrest⟩
  | egressConsumer hstate =>
    obtain ⟨hok, hinFrame, houtFrame, hproducer, hconsumer, hrest⟩ := hrunning hstate
    obtain ⟨hp, hc, -⟩ := State.examineReady_indices
      ({ s with erw := { s.erw with consumer := field16 s.shadow 0x34 % s.win.ne } })
    have hp' : s.egressConsumer.erw.producer = s.erw.producer := hp
    have hc' : s.egressConsumer.erw.consumer = field16 s.shadow 0x34 % s.win.ne := hc
    rw [State.egressConsumer_eq]
    refine ⟨hin, hout, hdrain, hfetch, htimer, fun _ => ⟨hok, hinFrame, houtFrame, ?_, ?_, hrest⟩⟩
    · exact hp'.trans_lt hproducer
    · exact hc'.trans_lt (hmod _ _ hok (.inl rfl))
  | noticeConsumer hstate =>
    obtain ⟨hok, hinFrame, houtFrame, hproducer, hconsumer, hnotice, -⟩ := hrunning hstate
    exact ⟨hin, hout, hdrain, hfetch, Nat.zero_le _,
      fun _ => ⟨hok, hinFrame, houtFrame, hproducer, hconsumer, hnotice, hmod _ _ hok (.inr rfl)⟩⟩
  | startDecode k =>
    obtain ⟨u, hfill, -, heq⟩ := s.startDecode_refill k
    rw [heq, hfill.frame]
    exact hlaw
  | admitNotice =>
    refine ⟨hin, hout, hdrain, hfetch, Nat.zero_le _, fun h => ?_⟩
    obtain ⟨hok, hinFrame, houtFrame, hproducer, hconsumer, -, hnotice⟩ := hrunning h
    exact ⟨hok, hinFrame, houtFrame, hproducer, hconsumer, hmod _ _ hok (.inr rfl), hnotice⟩
  | admitEgress k slot ws rest =>
    have hindices := State.examineReady_indices (({ s.entered (.egress k slot ws) rest with
      erw := { s.erw with producer := (s.erw.producer + 1) % s.win.ne, waiting := s.erw.waiting - 1 } }).freed k .encode)
    rw [State.examineReady_erw]
    refine ⟨hin, hout, hdrain, hfetch, htimer, fun h => ?_⟩
    obtain ⟨hok, hinFrame, houtFrame, hproducer, hconsumer, hrest⟩ := hrunning h
    exact ⟨hok, hinFrame, houtFrame, hindices.1.trans_lt (hmod _ _ hok (.inl rfl)), hindices.2.1.trans_lt hconsumer, hrest⟩
  | requeue u k d hfill => rw [hfill.frame]; exact hlaw
  | openContext k => rw [State.openEffect_eq]; exact hlaw
  | close k tag hactive =>
    rw [State.closeEffect_eq tag (s.lt_length_of_active hactive), (s.returnEach_refill _).frame]
    exact hlaw
  | start h =>
    have hok := State.layoutOk_ranges (State.startRefusal_eq_none h).2
    have hpositive := Windows.rangesOk_iff.mp hok
    have hindices : s.startEffect.erw.producer = 0 ∧ s.startEffect.erw.consumer = 0 := by
      obtain ⟨hp, hc, -⟩ := State.examineReady_indices (({ s with
        part := s.startedPart
        clocks := { inPos := 0, inFrame := 0, frameNo := 0, outPos := 0, outFrame := 0 }
        erw := { s.erw with producer := 0, consumer := 0, latch := false }
        ntw := { s.ntw with producer := 0, consumer := 0, lost := false, timer := 0, latch := false } } : State).requestGroup
          (State.indexResetGroup { s with part := s.startedPart }))
      exact ⟨hp, hc⟩
    have hntw : s.startEffect.ntw.producer = 0 ∧ s.startEffect.ntw.consumer = 0 ∧ s.startEffect.ntw.timer = 0 := by
      show (State.examineReady _).ntw.producer = 0 ∧ (State.examineReady _).ntw.consumer = 0 ∧ (State.examineReady _).ntw.timer = 0
      rw [State.examineReady_erw]
      exact ⟨rfl, rfl, rfl⟩
    rw [State.startEffect_eq]
    refine ⟨Nat.zero_lt_succ 159, Nat.zero_lt_succ 159, hdrain, hfetch, hntw.2.2.trans_le (Nat.zero_le _), fun _ => ⟨hok, ?_, ?_, ?_, ?_, ?_, ?_⟩⟩
    · show 0 < (readWindows s.shadow).frames
      omega
    · show 0 < (readWindows s.shadow).frames
      omega
    · exact hindices.1.trans_lt (show 0 < (readWindows s.shadow).ne by omega)
    · exact hindices.2.trans_lt (show 0 < (readWindows s.shadow).ne by omega)
    · exact hntw.1.trans_lt (show 0 < (readWindows s.shadow).nn by omega)
    · exact hntw.2.1.trans_lt (show 0 < (readWindows s.shadow).nn by omega)
  | stop => exact ⟨hin, hout, hdrain, hfetch, htimer, fun h => by cases h⟩
  | clear => exact ⟨hin, hout, hdrain, hfetch, htimer, fun h => by cases h⟩
  | reset => exact ⟨Nat.zero_lt_succ 159, Nat.zero_lt_succ 159, Nat.zero_le _, Nat.zero_le _, Nat.zero_le _, fun h => by cases h⟩

/-- Settles O53: counters, detectors and coder values record by record and job by job, the other values block by block. -/
theorem rangesKept : Obligations.RangesKept := by
  intro s t hstep
  refine ⟨?counters, ?detectors, ?coder, ?ranges⟩
  case counters => exact step_keeps_of_event (P := State.counterLaw) (fun _ _ => Event.counterLaw) hstep
  case detectors => exact step_keeps_of_event (P := State.detectorLaw) (fun _ _ => Event.detectorLaw) hstep
  case coder => exact step_keeps_of_event (P := State.coderLaw) (fun _ _ => Event.coderLaw) hstep
  case ranges => exact step_keeps_of_event (P := State.rangeLaw) (fun _ _ => Event.rangeLaw) hstep

end Sys2Proof.Machine

/-! The timeslot map (R79) and the stream tag map (R119). -/
namespace Sys2Proof.Machine

/-! ### An accepted OPEN (R96) and the part state -/

section
variable {s t : State} {k : Nat}

theorem State.openBadParam_eq_false_iff : s.openBadParam k = false ↔
    rawLaw s.shadow k ≤ 1 ∧ ((readCaptured s.shadow k).uplink = true ∨ (readCaptured s.shadow k).downlink = true) ∧
      ((readCaptured s.shadow k).uplink = true →
        (readCaptured s.shadow k).inSlot < s.win.slots ∧ (readCaptured s.shadow k).allowed ≠ 0) ∧
      ((readCaptured s.shadow k).downlink = true →
        (readCaptured s.shadow k).outSlot < s.win.slots ∧ (readCaptured s.shadow k).tag ≠ 0) := by
  simp only [State.openBadParam]
  cases (readCaptured s.shadow k).uplink <;> cases (readCaptured s.shadow k).downlink <;> simp
  · tauto
  · tauto
  · tauto

theorem State.mapFull_eq_false_iff {c : Captured} : s.mapFull c = false ↔
    (c.uplink = true → (s.tapSet c.inSlot).length < 3) ∧ (c.downlink = true → (s.claimList c.outSlot).length < 3) := by
  simp [State.mapFull]

theorem State.lookupTag_isSome_iff {tag : Nat} : (s.lookupTag tag).isSome = true ↔ ∃ p ∈ s.tags, p.1 = tag := by
  simp [State.lookupTag]

/-- R96: an OPEN is accepted where each of its checks passes. -/
theorem State.openRefusal_eq_none_iff : s.openRefusal k = none ↔
    s.part.state = .running ∧ (s.ctx k).state = .closed ∧ s.openBadParam k = false ∧
      ((readCaptured s.shadow k).downlink = true → ∀ p ∈ s.tags, p.1 ≠ (readCaptured s.shadow k).tag) ∧
      s.mapFull (readCaptured s.shadow k) = false := by
  have htag : ¬ ((readCaptured s.shadow k).downlink = true ∧ (s.lookupTag (readCaptured s.shadow k).tag).isSome = true) ↔
      ((readCaptured s.shadow k).downlink = true → ∀ p ∈ s.tags, p.1 ≠ (readCaptured s.shadow k).tag) := by
    rw [State.lookupTag_isSome_iff]
    push Not
    rfl
  rw [← htag]
  simp only [State.openRefusal]
  cases hpart : s.part.state with
  | idle => simp
  | running =>
    cases hstate : (s.ctx k).state with
    | active | closing => simp
    | closed =>
      cases s.openBadParam k with
      | true => simp
      | false =>
        by_cases h : (readCaptured s.shadow k).downlink = true ∧ (s.lookupTag (readCaptured s.shadow k).tag).isSome = true
        · simp [h]
        · cases s.mapFull (readCaptured s.shadow k) <;> simp [h]

/-- An event leaves the part's settings, or it is an accepted START, or the part is IDLE after it with every context CLOSED. -/
theorem Event.part (h : Event s t) : t.part = s.part ∨ (s.startRefusal = none ∧ t = s.startEffect) ∨
    (t.part.state = .idle ∧ ∀ c ∈ t.ctxs, c.state = .closed) := by
  cases h with
  | port | touch | status | fetchUnit | ingressClock | egressClock | timeout | noticeConsumer | withdrawEncode | requestEncode
  | swap | startEncode | encoded | queued | encodeDone | decoded | decodeDropped | admitPlain | admitNotice | discard | handover =>
    exact .inl rfl
  | notice _ h => exact .inl (by rw [h.frame])
  | egressConsumer => exact .inl (by rw [State.egressConsumer_eq])
  | startDecode k =>
    obtain ⟨u, hfill, -, heq⟩ := s.startDecode_refill k
    exact .inl (by rw [heq, hfill.frame]; rfl)
  | admitEgress => exact .inl (by rw [State.examineReady_erw]; rfl)
  | requeue u k d hfill => exact .inl (by rw [hfill.frame]; rfl)
  | openContext k => exact .inl (by rw [State.openEffect_eq]; rfl)
  | close k tag hactive =>
    exact .inl (by rw [State.closeEffect_eq tag (s.lt_length_of_active hactive), (s.returnEach_refill _).frame]; rfl)
  | start h => exact .inr (.inl ⟨h, rfl⟩)
  | stop h => exact .inr (.inr ⟨rfl, h⟩)
  | clear => exact .inr (.inr ⟨rfl, List.forall_mem_map.mpr fun _ _ => rfl⟩)
  | reset => exact .inr (.inr ⟨rfl, fun c hc => by rw [List.eq_of_mem_replicate hc]; rfl⟩)

end

/-! ### One collection of the timeslot map (R79 to R85) -/

/-- The list of a timeslot. -/
def listOf (lists : List (List Nat)) (t : Nat) : List Nat := lists.getD t []

/-- A collection of context lists by timeslot holds each context in the timeslot it has a place in, and nothing else. -/
structure Collected (lists : List (List Nat)) (place : Nat → Option Nat) : Prop where
  length : lists.length = 512
  small : ∀ t < 512, (listOf lists t).length ≤ 3
  nodup : ∀ t < 512, (listOf lists t).Nodup
  contexts : ∀ t < 512, ∀ k ∈ listOf lists t, k < 384
  slot : ∀ k < 384, ∀ t, place k = some t → t < 512
  mem_iff : ∀ k < 384, ∀ t < 512, k ∈ listOf lists t ↔ place k = some t

section
variable {lists : List (List Nat)} {place place' : Nat → Option Nat}

theorem getD_set {α : Type} (l : List α) (i t : Nat) (a d : α) :
    (l.set i a).getD t d = if t = i ∧ i < l.length then a else l.getD t d := by
  simp only [List.getD_eq_getElem?_getD, List.getElem?_set]
  by_cases hi : i = t
  · subst hi
    by_cases hlen : i < l.length
    · simp [hlen]
    · simp [hlen]
  · simp [hi, Ne.symm hi]

theorem Collected.congr (h : Collected lists place) (heq : ∀ k < 384, place' k = place k) : Collected lists place' :=
  ⟨h.length, h.small, h.nodup, h.contexts, fun k hk t ht => h.slot k hk t (by rw [← heq k hk, ht]),
    fun k hk t ht => by rw [h.mem_iff k hk t ht, heq k hk]⟩

/-- A new list for one timeslot: its contexts have their place there, and every other keeps a place elsewhere. -/
theorem Collected.set (h : Collected lists place) {i : Nat} {l : List Nat} (hi : i < 512) (hsmall : l.length ≤ 3)
    (hnodup : l.Nodup) (hcontexts : ∀ k ∈ l, k < 384) (hfrom : ∀ k ∈ l, ∀ t, place k = some t → t = i)
    (hplace : ∀ k < 384, place' k = if k ∈ l then some i else if place k = some i then none else place k) :
    Collected (lists.set i l) place' := by
  have hget : ∀ t, listOf (lists.set i l) t = if t = i then l else listOf lists t := fun t => by
    rw [listOf, getD_set, h.length]
    simp [hi, listOf]
  refine ⟨by rw [List.length_set, h.length], fun t ht => ?_, fun t ht => ?_, fun t ht => ?_, fun k hk t ht => ?_,
    fun k hk t ht => ?_⟩
  · rw [hget]; split
    · exact hsmall
    · exact h.small t ht
  · rw [hget]; split
    · exact hnodup
    · exact h.nodup t ht
  · rw [hget]; split
    · exact hcontexts
    · exact h.contexts t ht
  · rw [hplace k hk] at ht
    split_ifs at ht with hl hi'
    · cases ht; exact hi
    · exact h.slot k hk t ht
  · have hold := h.mem_iff k hk t ht
    have hwhere := hfrom k
    rw [hget, hplace k hk]
    by_cases hl : k ∈ l
    · by_cases hti : t = i
      · simp [hti, hl]
      · have hne : place k ≠ some t := fun hp => hti (hwhere hl t hp)
        simp [hl, hti, hold, hne, Ne.symm hti]
    · by_cases hti : t = i
      · subst hti
        by_cases hp : place k = some t <;> simp [hl, hp]
      · by_cases hp : place k = some i
        · simp [hl, hti, hold, hp, Ne.symm hti]
        · simp [hl, hti, hold, hp]

/-- R82: a context without a place joins at the tail of a list that is not full. -/
theorem Collected.join (h : Collected lists place) {k i : Nat} (hk : k < 384) (hi : i < 512) (hroom : (listOf lists i).length < 3)
    (hfree : place k = none) (hplace : ∀ j < 384, place' j = if j = k then some i else place j) :
    Collected (lists.set i (listOf lists i ++ [k])) place' := by
  have hin := fun j hj => h.mem_iff j hj i hi
  have hnew : k ∉ listOf lists i := by simp [hin k hk, hfree]
  refine h.set hi (by simpa using hroom) ?_ ?_ (fun j hj t ht => ?_) fun j hj => ?_
  · exact List.nodup_append.mpr ⟨h.nodup i hi, by simp, fun a ha b hb e => hnew (List.mem_singleton.mp hb ▸ e ▸ ha)⟩
  · intro j hj
    rcases List.mem_append.mp hj with hj | hj
    · exact h.contexts i hi j hj
    · exact List.mem_singleton.mp hj ▸ hk
  · rcases List.mem_append.mp hj with hj | hj
    · have := (hin j (h.contexts i hi j hj)).mp hj
      rw [this] at ht
      exact (Option.some.inj ht).symm
    · rw [List.mem_singleton.mp hj, hfree] at ht
      cases ht
  · rw [hplace j hj]
    by_cases hjk : j = k
    · simp [hjk]
    · by_cases hp : place j = some i
      · simp [hjk, hin j hj, hp]
      · simp [hjk, hin j hj, hp]

/-- R85: a context leaves its list, and the others keep theirs. -/
theorem Collected.leave (h : Collected lists place) {k i : Nat} (hk : k < 384) (hi : place k = some i)
    (hplace : ∀ j < 384, place' j = if j = k then none else place j) :
    Collected (lists.set i ((listOf lists i).filter (· != k))) place' := by
  have hi512 := h.slot k hk i hi
  have hin := fun j hj => h.mem_iff j hj i hi512
  refine h.set hi512 ((List.length_filter_le ..).trans (h.small i hi512)) ((h.nodup i hi512).filter _) ?_ (fun j hj t ht => ?_) fun j hj => ?_
  · exact fun j hj => h.contexts i hi512 j (List.mem_of_mem_filter hj)
  · obtain ⟨hj, -⟩ := List.mem_filter.mp hj
    have := (hin j (h.contexts i hi512 j hj)).mp hj
    rw [this] at ht
    exact (Option.some.inj ht).symm
  · rw [hplace j hj]
    by_cases hjk : j = k
    · subst hjk; simp [hi]
    · by_cases hp : place j = some i
      · simp [hjk, hin j hj, hp]
      · simp [hjk, hin j hj, hp]

/-- R84: a list of the same contexts in another order. -/
theorem Collected.reorder (h : Collected lists place) {i : Nat} {l : List Nat} (hi : i < 512) (hperm : l.Perm (listOf lists i)) :
    Collected (lists.set i l) place := by
  have hin := fun j hj => h.mem_iff j hj i hi
  refine h.set hi (hperm.length_eq.trans_le (h.small i hi)) (hperm.nodup_iff.mpr (h.nodup i hi)) ?_ (fun j hj t ht => ?_) fun j hj => ?_
  · exact fun j hj => h.contexts i hi j (hperm.mem_iff.mp hj)
  · have hj := hperm.mem_iff.mp hj
    have := (hin j (h.contexts i hi j hj)).mp hj
    rw [this] at ht
    exact (Option.some.inj ht).symm
  · by_cases hp : place j = some i
    · simp [hperm.mem_iff, hin j hj, hp]
    · simp [hperm.mem_iff, hin j hj, hp]

theorem Collected.empty (hplace : ∀ k < 384, place k = none) : Collected (List.replicate 512 []) place := by
  have hget : ∀ t, listOf (List.replicate 512 []) t = [] := fun t => by
    rw [listOf, List.getD_eq_getElem?_getD, List.getElem?_replicate]
    split <;> rfl
  refine ⟨List.length_replicate, fun t _ => ?_, fun t _ => ?_, fun t _ k hk => ?_, fun k hk t ht => ?_, fun k hk t _ => ?_⟩
  · rw [hget]; exact Nat.zero_le 3
  · rw [hget]; exact List.nodup_nil
  · rw [hget] at hk; cases hk
  · rw [hplace k hk] at ht; cases ht
  · rw [hget, hplace k hk]; simp

end

/-! ### The timeslot map (R79) -/

/-- The ingress timeslot of an ACTIVE uplink context. -/
def Context.upPlace (c : Context) : Option Nat := if c.state = .active ∧ c.cfg.uplink = true then some c.cfg.inSlot else none

/-- The egress timeslot of an ACTIVE downlink context. -/
def Context.downPlace (c : Context) : Option Nat := if c.state = .active ∧ c.cfg.downlink = true then some c.cfg.outSlot else none

theorem Context.upPlace_eq_some_iff {c : Context} {t : Nat} :
    c.upPlace = some t ↔ c.state = .active ∧ c.cfg.uplink = true ∧ c.cfg.inSlot = t := by
  simp [Context.upPlace, and_assoc]

theorem Context.downPlace_eq_some_iff {c : Context} {t : Nat} :
    c.downPlace = some t ↔ c.state = .active ∧ c.cfg.downlink = true ∧ c.cfg.outSlot = t := by
  simp [Context.downPlace, and_assoc]

theorem Context.places_of_not_active {c : Context} (h : c.state ≠ .active) : c.upPlace = none ∧ c.downPlace = none := by
  simp [Context.upPlace, Context.downPlace, h]

theorem State.mapLaw_iff {s : State} : s.mapLaw ↔ s.ctxs.length = 384 ∧ (s.part.state = .running → s.win.slots ≤ 512) ∧
    Collected s.tsm.taps (fun k => (s.ctx k).upPlace) ∧ Collected s.tsm.claims (fun k => (s.ctx k).downPlace) := by
  constructor
  · rintro ⟨hlen, htaps, hclaims, hslots, hlists, hplaces, hmem⟩
    refine ⟨hlen, hslots, ⟨htaps, fun t ht => (hlists t ht).1, fun t ht => (hlists t ht).2.1,
      fun t ht => (hlists t ht).2.2.2.2.1, fun k hk t ht => ?_, fun k hk t ht => ?_⟩,
      ⟨hclaims, fun t ht => (hlists t ht).2.2.1, fun t ht => (hlists t ht).2.2.2.1,
      fun t ht => (hlists t ht).2.2.2.2.2, fun k hk t ht => ?_, fun k hk t ht => ?_⟩⟩
    · obtain ⟨hactive, hup, rfl⟩ := Context.upPlace_eq_some_iff.mp ht
      exact (hplaces k hk hactive).1 hup
    · exact (hmem k hk t ht).1.trans Context.upPlace_eq_some_iff.symm
    · obtain ⟨hactive, hdown, rfl⟩ := Context.downPlace_eq_some_iff.mp ht
      exact (hplaces k hk hactive).2 hdown
    · exact (hmem k hk t ht).2.trans Context.downPlace_eq_some_iff.symm
  · rintro ⟨hlen, hslots, htaps, hclaims⟩
    refine ⟨hlen, htaps.length, hclaims.length, hslots, fun t ht => ?_, fun k hk hactive => ?_, fun k hk t ht => ?_⟩
    · exact ⟨htaps.small t ht, htaps.nodup t ht, hclaims.small t ht, hclaims.nodup t ht, htaps.contexts t ht, hclaims.contexts t ht⟩
    · exact ⟨fun hup => htaps.slot k hk _ (Context.upPlace_eq_some_iff.mpr ⟨hactive, hup, rfl⟩),
        fun hdown => hclaims.slot k hk _ (Context.downPlace_eq_some_iff.mpr ⟨hactive, hdown, rfl⟩)⟩
    · exact ⟨(htaps.mem_iff k hk t ht).trans Context.upPlace_eq_some_iff,
        (hclaims.mem_iff k hk t ht).trans Context.downPlace_eq_some_iff⟩

theorem Event.slots {s t : State} (h : Event s t) (hs : s.part.state = .running → s.win.slots ≤ 512) :
    t.part.state = .running → t.win.slots ≤ 512 := by
  obtain hsame | ⟨hstart, rfl⟩ | ⟨hidle, -⟩ := h.part
  · rw [hsame, State.win_congr hsame]
    exact hs
  · have hok := Windows.rangesOk_iff.mp (State.layoutOk_ranges (State.startRefusal_eq_none hstart).2)
    rw [State.startEffect_eq]
    exact fun _ => hok.2.2.1
  · exact fun h => absurd (hidle.symm.trans h) (by decide)

theorem SameCalls.places {s t : State} (h : SameCalls s t) (k : Nat) :
    (t.ctx k).upPlace = (s.ctx k).upPlace ∧ (t.ctx k).downPlace = (s.ctx k).downPlace := by
  obtain ⟨hup, hdown, hin, hout, -⟩ := Captured.route_eq_iff.mp (h.route k)
  simp only [Context.upPlace, Context.downPlace, h.active k, hup, hdown, hin, hout, and_self]

/-- R102: a HANDOVER is accepted for an ACTIVE downlink context. -/
theorem State.handoverRefusal_eq_none_iff {s : State} {k : Nat} : s.handoverRefusal k = none ↔
    (s.ctx k).state = .active ∧ (s.ctx k).cfg.downlink = true := by
  simp only [State.handoverRefusal]
  cases (s.ctx k).state <;> simp

theorem State.openEffect_ctx {s : State} {k j : Nat} (hk : k < s.ctxs.length) :
    (s.openEffect k).ctx j = if j = k then (s.ctx k).opened k (readCaptured s.shadow k) else s.ctx j := by
  have hset := s.ctx_setCtx k j ((s.ctx k).opened k (readCaptured s.shadow k))
  simp only [hk, and_true] at hset
  rw [State.openEffect_eq]
  exact hset

theorem State.closeEffect_ctx {s : State} {k j : Nat} (tag : Byte) (hactive : (s.ctx k).state = .active) :
    (s.closeEffect k tag).ctx j = if j = k then (s.ctx k).closedBy tag else s.ctx j := by
  have hk := s.lt_length_of_active hactive
  have hset := s.ctx_setCtx k j ((s.ctx k).closedBy tag)
  simp only [hk, and_true] at hset
  rw [State.closeEffect_eq tag hk]
  exact hset

theorem State.clearEffect_state (s : State) (k : Nat) : (s.clearEffect.ctx k).state = .closed := by
  have hmap : s.clearEffect.ctx k = (s.ctxs.map Context.atClear).getD k Context.cleared := rfl
  rcases Nat.lt_or_ge k s.ctxs.length with hk | hk
  · rw [hmap, List.getD_eq_getElem _ _ (by simpa using hk), List.getElem_map]
    rfl
  · rw [hmap, List.getD_eq_default _ _ (by simpa using hk)]
    rfl

theorem State.afterReset_ctx (cbBase : BitVec 13) (memSize : BitVec 3) (shadow mem : Memory) (k : Nat) :
    (State.afterReset cbBase memSize shadow mem).ctx k = Context.cleared := by
  have hrep : (State.afterReset cbBase memSize shadow mem).ctx k =
    (List.replicate Config.contexts Context.cleared).getD k Context.cleared := rfl
  rw [hrep, List.getD_eq_getElem?_getD, List.getElem?_replicate]
  split <;> rfl

theorem Context.opened_places (k : Nat) (cfg : Captured) (c : Context) :
    (c.opened k cfg).upPlace = (if cfg.uplink then some cfg.inSlot else none) ∧
      (c.opened k cfg).downPlace = if cfg.downlink then some cfg.outSlot else none := by
  simp [Context.upPlace, Context.downPlace, Context.opened]

theorem Context.closedBy_not_active (tag : Byte) (c : Context) : (c.closedBy tag).state ≠ .active := by
  unfold Context.closedBy
  dsimp only
  split <;> decide

theorem toHead_perm {k : Nat} {l : List Nat} (h : l.Nodup) : (toHead k l).Perm l := by
  unfold toHead
  split
  · rename_i hk
    rw [← h.erase_eq_filter]
    exact (List.perm_cons_erase hk).symm
  · exact .refl _

theorem Event.mapLaw {s t : State} (h : Event s t) (hs : s.mapLaw) : t.mapLaw := by
  rw [State.mapLaw_iff] at hs ⊢
  obtain ⟨hlen, hslots, htaps, hclaims⟩ := hs
  refine ⟨h.length hlen, h.slots hslots, ?_⟩
  obtain hsame | ⟨k, hk, hopen, rfl⟩ | ⟨k, hover, rfl⟩ | ⟨k, tag, hactive, rfl⟩ | rfl | ⟨c, m, shadow, rfl⟩ := h.calls
  · rw [hsame.tsm]
    exact ⟨htaps.congr fun k _ => (hsame.places k).1, hclaims.congr fun k _ => (hsame.places k).2⟩
  · obtain ⟨hrunning, hclosed, hparam, -, hroom⟩ := State.openRefusal_eq_none_iff.mp hopen
    obtain ⟨-, -, hin, hout⟩ := State.openBadParam_eq_false_iff.mp hparam
    obtain ⟨hinRoom, houtRoom⟩ := State.mapFull_eq_false_iff.mp hroom
    have hslot := hslots hrunning
    obtain ⟨hnoUp, hnoDown⟩ := Context.places_of_not_active (c := s.ctx k) (by simp [hclosed])
    have hctx := fun j => State.openEffect_ctx (s := s) (j := j) (hlen ▸ hk)
    have htsm : (s.openEffect k).tsm = s.tsm.join k (readCaptured s.shadow k) := by rw [State.openEffect_eq]; rfl
    rw [htsm]
    obtain ⟨hup, hdown⟩ := Context.opened_places k (readCaptured s.shadow k) (s.ctx k)
    generalize readCaptured s.shadow k = cfg at *
    constructor
    · cases huplink : cfg.uplink with
      | true =>
        simp only [Tsm.join, huplink, if_true]
        refine htaps.join hk ((hin huplink).1.trans_le hslot) (hinRoom huplink) hnoUp fun j _ => ?_
        rw [hctx]
        split
        · rw [hup, if_pos huplink]
        · rfl
      | false =>
        simp only [Tsm.join, huplink]
        refine htaps.congr fun j _ => ?_
        rw [hctx]
        split
        · rename_i hj
          rw [hup, if_neg (by simp [huplink]), hj, hnoUp]
        · rfl
    · cases hdownlink : cfg.downlink with
      | true =>
        simp only [Tsm.join, hdownlink, if_true]
        refine hclaims.join hk ((hout hdownlink).1.trans_le hslot) (houtRoom hdownlink) hnoDown fun j _ => ?_
        rw [hctx]
        split
        · rw [hdown, if_pos hdownlink]
        · rfl
      | false =>
        simp only [Tsm.join, hdownlink]
        refine hclaims.congr fun j _ => ?_
        rw [hctx]
        split
        · rename_i hj
          rw [hdown, if_neg (by simp [hdownlink]), hj, hnoDown]
        · rfl
  · have hk : k < 384 := hlen ▸ s.lt_length_of_active (State.handoverRefusal_eq_none_iff.mp hover).1
    have hplace := Context.downPlace_eq_some_iff.mpr
      ⟨(State.handoverRefusal_eq_none_iff.mp hover).1, (State.handoverRefusal_eq_none_iff.mp hover).2, rfl⟩
    have hslot := hclaims.slot k hk _ hplace
    exact ⟨htaps, hclaims.reorder hslot (toHead_perm (hclaims.nodup _ hslot))⟩
  · have hk : k < 384 := hlen ▸ s.lt_length_of_active hactive
    have hctx := fun j => State.closeEffect_ctx (j := j) tag hactive
    obtain ⟨hnoUp, hnoDown⟩ := Context.places_of_not_active (Context.closedBy_not_active tag (s.ctx k))
    have htsm : (s.closeEffect k tag).tsm = s.tsm.leave k (s.ctx k).cfg := by
      rw [State.closeEffect_eq tag (hlen ▸ hk)]; rfl
    rw [htsm]
    constructor
    · cases huplink : (s.ctx k).cfg.uplink with
      | true =>
        simp only [Tsm.leave, huplink, if_true]
        refine htaps.leave hk (Context.upPlace_eq_some_iff.mpr ⟨hactive, huplink, rfl⟩) fun j _ => ?_
        rw [hctx]
        split
        · exact hnoUp
        · rfl
      | false =>
        simp only [Tsm.leave, huplink]
        refine htaps.congr fun j _ => ?_
        rw [hctx]
        split
        · rename_i hj
          rw [hj, hnoUp]
          simp [Context.upPlace, huplink]
        · rfl
    · cases hdownlink : (s.ctx k).cfg.downlink with
      | true =>
        simp only [Tsm.leave, hdownlink, if_true]
        refine hclaims.leave hk (Context.downPlace_eq_some_iff.mpr ⟨hactive, hdownlink, rfl⟩) fun j _ => ?_
        rw [hctx]
        split
        · exact hnoDown
        · rfl
      | false =>
        simp only [Tsm.leave, hdownlink]
        refine hclaims.congr fun j _ => ?_
        rw [hctx]
        split
        · rename_i hj
          rw [hj, hnoDown]
          simp [Context.downPlace, hdownlink]
        · rfl
  · have hnone : ∀ k < 384, (s.clearEffect.ctx k).upPlace = none ∧ (s.clearEffect.ctx k).downPlace = none := fun k _ =>
      Context.places_of_not_active (by rw [State.clearEffect_state]; decide)
    exact ⟨Collected.empty fun k hk => (hnone k hk).1, Collected.empty fun k hk => (hnone k hk).2⟩
  · have hnone : ∀ k, ((State.afterReset c m shadow s.mem).ctx k).upPlace = none ∧
        ((State.afterReset c m shadow s.mem).ctx k).downPlace = none := fun k =>
      Context.places_of_not_active (by rw [State.afterReset_ctx]; decide)
    exact ⟨Collected.empty fun k _ => (hnone k).1, Collected.empty fun k _ => (hnone k).2⟩

/-- Settles O55: an OPEN joins, a CLOSE leaves, a HANDOVER reorders a list, CLEAR and reset empty them; nothing else moves a place. -/
theorem mapLawKept : Obligations.MapLawKept := fun _ _ hstep hs => step_keeps_of_event (fun _ _ => Event.mapLaw) hstep hs

end Sys2Proof.Machine

namespace Sys2Proof.Machine

/-! ### The stream tag map (R119) -/

/-- The tag of an ACTIVE downlink context. -/
def Context.tagPlace (c : Context) : Option Nat := if c.state = .active ∧ c.cfg.downlink = true then some c.cfg.tag else none

theorem Context.tagPlace_eq_some_iff {c : Context} {tag : Nat} :
    c.tagPlace = some tag ↔ c.state = .active ∧ c.cfg.downlink = true ∧ c.cfg.tag = tag := by
  simp [Context.tagPlace, and_assoc]

theorem Context.tagPlace_of_not_active {c : Context} (h : c.state ≠ .active) : c.tagPlace = none := by
  simp [Context.tagPlace, h]

theorem Event.tagLaw {s t : State} (h : Event s t) (hs : s.tagLaw) : t.tagLaw := by
  obtain ⟨hlen, hnodup, hrange, hmem⟩ := hs
  have hmem' : ∀ k < 384, ∀ tag, (tag, k) ∈ s.tags ↔ (s.ctx k).tagPlace = some tag := fun k hk tag =>
    (hmem k hk tag).trans Context.tagPlace_eq_some_iff.symm
  suffices hgoal : (t.tags.map (·.1)).Nodup ∧ (∀ p ∈ t.tags, 1 ≤ p.1 ∧ p.1 ≤ 65535 ∧ p.2 < 384) ∧
      ∀ k < 384, ∀ tag, (tag, k) ∈ t.tags ↔ (t.ctx k).tagPlace = some tag by
    obtain ⟨hnodup', hrange', hplace⟩ := hgoal
    exact ⟨h.length hlen, hnodup', hrange', fun k hk tag => (hplace k hk tag).trans Context.tagPlace_eq_some_iff⟩
  have hempty : ∀ u : State, u.tags = [] → (∀ k, (u.ctx k).state = .closed) → (u.tags.map (·.1)).Nodup ∧
      (∀ p ∈ u.tags, 1 ≤ p.1 ∧ p.1 ≤ 65535 ∧ p.2 < 384) ∧
        ∀ k < 384, ∀ tag, (tag, k) ∈ u.tags ↔ (u.ctx k).tagPlace = some tag := by
    intro u htags hclosed
    rw [htags]
    refine ⟨List.nodup_nil, fun p hp => (by cases hp), fun k _ tag => ?_⟩
    rw [Context.tagPlace_of_not_active (by rw [hclosed]; decide)]
    simp
  obtain hsame | ⟨k, hk, hopen, rfl⟩ | ⟨k, -, rfl⟩ | ⟨k, tag, hactive, rfl⟩ | rfl | ⟨c, m, shadow, rfl⟩ := h.calls
  · rw [hsame.tags]
    refine ⟨hnodup, hrange, fun k hk tag => (hmem' k hk tag).trans ?_⟩
    obtain ⟨-, hdown, -, -, htag⟩ := Captured.route_eq_iff.mp (hsame.route k)
    simp only [Context.tagPlace, hsame.active k, hdown, htag]
  · obtain ⟨-, hclosed, hparam, hfresh, -⟩ := State.openRefusal_eq_none_iff.mp hopen
    obtain ⟨-, -, -, hout⟩ := State.openBadParam_eq_false_iff.mp hparam
    have hnone : (s.ctx k).tagPlace = none := Context.tagPlace_of_not_active (by simp [hclosed])
    have hctx := fun j => State.openEffect_ctx (s := s) (j := j) (hlen ▸ hk)
    have htags : (s.openEffect k).tags = if (readCaptured s.shadow k).downlink = true then
        s.tags ++ [((readCaptured s.shadow k).tag, k)] else s.tags := by rw [State.openEffect_eq]; rfl
    have htagRange := (readCaptured_inRange s.shadow k).2.2.1
    have hopened : ∀ cfg, ((s.ctx k).opened k cfg).tagPlace = if cfg.downlink then some cfg.tag else none := fun cfg => by
      simp [Context.tagPlace, Context.opened]
    rw [htags]
    generalize readCaptured s.shadow k = cfg at *
    cases hdown : cfg.downlink with
    | true =>
      obtain ⟨-, hzero⟩ := hout hdown
      rw [if_pos rfl]
      refine ⟨?_, ?_, fun j hj tag => ?_⟩
      · rw [List.map_append]
        refine List.nodup_append.mpr ⟨hnodup, by simp, fun a ha b hb e => ?_⟩
        obtain ⟨p, hp, rfl⟩ := List.mem_map.mp ha
        exact hfresh hdown p hp (e.trans (List.mem_singleton.mp hb))
      · intro p hp
        rcases List.mem_append.mp hp with hp | hp
        · exact hrange p hp
        · rw [List.mem_singleton.mp hp]
          exact ⟨Nat.one_le_iff_ne_zero.mpr hzero, htagRange, hk⟩
      · rw [List.mem_append, hmem' j hj, hctx]
        by_cases hjk : j = k
        · subst hjk
          rw [if_pos rfl, hopened, if_pos hdown, hnone]
          simp [eq_comm]
        · rw [if_neg hjk]
          simp [hjk]
    | false =>
      refine ⟨hnodup, hrange, fun j hj tag => (hmem' j hj tag).trans ?_⟩
      rw [hctx]
      split
      · rename_i hjk
        rw [hopened, if_neg (by simp [hdown]), hjk, hnone]
      · rfl
  · exact ⟨hnodup, hrange, hmem'⟩
  · have hctx := fun j => State.closeEffect_ctx (j := j) tag hactive
    have htags : (s.closeEffect k tag).tags = s.tags.filter fun p => p.2 != k := by
      rw [State.closeEffect_eq tag (s.lt_length_of_active hactive)]; rfl
    rw [htags]
    refine ⟨hnodup.sublist (List.filter_sublist.map _), fun p hp => hrange p (List.mem_of_mem_filter hp), fun j hj tag' => ?_⟩
    rw [List.mem_filter, hmem' j hj, hctx]
    by_cases hjk : j = k
    · rw [if_pos hjk, Context.tagPlace_of_not_active (Context.closedBy_not_active tag _)]
      simp [hjk]
    · rw [if_neg hjk]
      simp [hjk]
  · exact hempty _ rfl fun k => s.clearEffect_state k
  · exact hempty _ rfl fun k => congrArg Context.state (State.afterReset_ctx c m shadow s.mem k)

/-- Settles O56: an OPEN adds the one entry of its context, a CLOSE takes it out, CLEAR and reset empty the map. -/
theorem tagLawKept : Obligations.TagLawKept := fun _ _ hstep hs => step_keeps_of_event (fun _ _ => Event.tagLaw) hstep hs

/-! ### The playout queues (R125) -/

/-- The playout law of one record. -/
def Context.queued (c : Context) : Prop :=
  (c.state = .active → 2 ≤ c.cfg.q ∧ c.cfg.q ≤ 8 ∧ c.cfg.d < c.cfg.q) ∧ playoutOrdered c.cfg.q c.expected c.playout

theorem State.playoutLaw_iff {s : State} : s.playoutLaw ↔ s.tagsActive ∧ ∀ c ∈ s.ctxs, c.queued :=
  ⟨fun ⟨htags, hq, hord⟩ => ⟨htags, fun c hc => ⟨hq c hc, hord c hc⟩⟩,
    fun ⟨htags, h⟩ => ⟨htags, fun c hc => (h c hc).1, fun c hc => (h c hc).2⟩⟩

theorem playoutOrdered_nil (q : Nat) (expected : Option Byte) : playoutOrdered q expected [] := by
  cases expected with
  | none => rfl
  | some x => exact ⟨List.Pairwise.nil, fun e he => by cases he⟩

theorem Context.queued_takeFront {c : Context} (h : c.queued) : c.takeFront.queued := by
  refine ⟨h.1, ?_⟩
  have hord := h.2
  cases hx : c.expected with
  | none =>
    rw [Context.takeFront_of_none hx]
    exact hord
  | some x =>
    rw [hx] at hord
    have hplayout : c.takeFront.playout = c.playout.filter fun e => decide (e.seq ≠ x) := by simp [Context.takeFront, hx]
    have hexpected : c.takeFront.expected = some (x + 1) := by simp [Context.takeFront, hx]
    rw [hplayout, hexpected]
    exact playoutOrdered_takeFront hord

theorem RecordEvent.queued {s : State} {k : Nat} {d : Context} (h : RecordEvent s k d) (htags : s.tagsActive)
    (hs : (s.ctx k).queued) : d.queued := by
  cases h with
  | touch _ _ h => rw [h.frame]; exact hs
  | swap | started | encoded => exact hs
  | answered => exact Context.queued_takeFront hs
  | freed => exact ⟨fun h => hs.1 (Context.freed_active.mp h), hs.2⟩
  | decoded j hj hactive => exact ⟨fun _ => hs.1 hactive, hs.2⟩
  | requeued _ _ _ _ h hlive =>
    have hactive : (s.ctx k).state = .active := by
      obtain h | ⟨p, hp, rfl⟩ := hlive
      · exact h
      · exact (htags.2 p hp).2
    obtain ⟨hq, hq', hd⟩ := hs.1 hactive
    obtain ⟨hnew, hord, -⟩ := h.queue hq hq' hd hs.2
    exact ⟨fun _ => hnew, hord⟩
  | opened => exact ⟨fun _ => readAdjustable_q .., playoutOrdered_nil _ _⟩
  | closed _ tag => exact ⟨fun h => absurd h (Context.closedBy_not_active tag _), playoutOrdered_nil _ _⟩

theorem Event.tagsActive {s t : State} (h : Event s t) (hs : s.tagsActive) : t.tagsActive := by
  obtain ⟨hlen, htags⟩ := hs
  refine ⟨h.length hlen, ?_⟩
  obtain hsame | ⟨k, hk, -, rfl⟩ | ⟨k, -, rfl⟩ | ⟨k, tag, hactive, rfl⟩ | rfl | ⟨c, m, shadow, rfl⟩ := h.calls
  · rw [hsame.tags]
    exact fun p hp => ⟨(htags p hp).1, (hsame.active _).mpr (htags p hp).2⟩
  · have hctx := fun j => State.openEffect_ctx (s := s) (j := j) (hlen ▸ hk)
    have hlive : ∀ j, (j = k ∨ (s.ctx j).state = .active) → ((s.openEffect k).ctx j).state = .active := by
      intro j hj
      rw [hctx]
      split
      · rfl
      · exact hj.resolve_left ‹_›
    rw [State.openEffect_eq] at hlive ⊢
    intro p hp
    change p ∈ (if (readCaptured s.shadow k).downlink = true then s.tags ++ [_] else s.tags) at hp
    have hp' : p ∈ s.tags ∨ p.2 = k := by
      split at hp
      · exact (List.mem_append.mp hp).imp_right fun h => by rw [List.mem_singleton.mp h]
      · exact .inl hp
    obtain hp | rfl := hp'
    · exact ⟨(htags p hp).1, hlive _ (.inr (htags p hp).2)⟩
    · exact ⟨hk, hlive _ (.inl rfl)⟩
  · exact htags
  · have hctx := fun j => State.closeEffect_ctx (j := j) tag hactive
    have hfilter : (s.closeEffect k tag).tags = s.tags.filter fun p => p.2 != k := by
      rw [State.closeEffect_eq tag (s.lt_length_of_active hactive)]; rfl
    rw [hfilter]
    intro p hp
    obtain ⟨hp, hne⟩ := List.mem_filter.mp hp
    rw [hctx, if_neg (by simpa using hne)]
    exact htags p hp
  · exact fun p hp => by cases hp
  · exact fun p hp => by cases hp

theorem Event.playoutLaw {s t : State} (h : Event s t) (hs : s.playoutLaw) : t.playoutLaw := by
  rw [State.playoutLaw_iff] at hs ⊢
  obtain ⟨htags, hqueues⟩ := hs
  exact ⟨h.tagsActive htags, h.forall_ctxs (P := Context.queued) hqueues (fun _ _ hd => hd.queued htags)
    (fun c _ => ⟨fun h => (by cases h), playoutOrdered_nil _ _⟩) ⟨fun h => (by cases h), rfl⟩⟩

/-- Settles O58: arrivals, answers and a lowered Q keep each queue ordered below its Q; every other change leaves or empties it. -/
theorem playoutLawKept : Obligations.PlayoutLawKept := fun _ _ hstep hs =>
  step_keeps_of_event (fun _ _ => Event.playoutLaw) hstep hs

/-! ### The frame pool (R123, R124) -/

theorem Event.lowLaw {s t : State} (h : Event s t) (hs : s.lowLaw) : t.lowLaw := by
  cases h with
  | port | touch | status | fetchUnit | ingressClock | egressClock | timeout | noticeConsumer | withdrawEncode | requestEncode
  | swap | startEncode | encoded | queued | encodeDone | decoded | decodeDropped | admitPlain | admitNotice | discard | handover
  | stop => exact hs
  | notice _ h => exact h.low hs
  | egressConsumer => rw [State.egressConsumer_eq]; exact hs
  | startDecode k =>
    obtain ⟨u, hfill, -, heq⟩ := s.startDecode_refill k
    rw [heq]
    exact hfill.low hs
  | admitEgress => rw [State.examineReady_erw]; exact hs
  | requeue u k d hfill => exact hfill.low hs
  | openContext k => rw [State.openEffect_eq]; exact hs
  | close k tag hactive =>
    rw [State.closeEffect_eq tag (s.lt_length_of_active hactive)]
    exact (s.returnEach_refill _).low hs
  | start => rw [State.startEffect_eq]; exact hs
  | clear => exact ⟨fun _ => (by decide : 512 ≤ 4096), fun h => (by cases h)⟩
  | reset => exact ⟨fun _ => (by decide : 512 ≤ 4096), fun h => (by cases h)⟩

/-- What the playout queues hold, and the free count, between them. -/
def State.blocks (s : State) : Nat := s.pool.free + (s.ctxs.map Context.blocksHeld).sum

theorem sum_map_set {l : List Context} {k : Nat} (hk : k < l.length) (d : Context) (f : Context → Nat) :
    ((l.set k d).map f).sum + f (l.getD k Context.cleared) = (l.map f).sum + f d := by
  induction l generalizing k with
  | nil => simp at hk
  | cons c l ih =>
    cases k with
    | zero => simp; omega
    | succ k =>
      have := ih (k := k) (by simpa using hk)
      simp only [List.set_cons_succ, List.map_cons, List.sum_cons, List.getD_cons_succ]
      omega

/-- One new record, with the blocks it took from the free count or gave back. -/
theorem State.blocks_of_set {s t : State} {k : Nat} {d : Context} (h : t.ctxs = s.ctxs.set k d)
    (hout : s.ctxs.length ≤ k → t.pool.free = s.pool.free)
    (hin : k < s.ctxs.length → t.pool.free + d.blocksHeld = s.pool.free + (s.ctx k).blocksHeld) : t.blocks = s.blocks := by
  rcases Nat.lt_or_ge k s.ctxs.length with hk | hk
  · have hsum := sum_map_set hk d Context.blocksHeld
    have hfree := hin hk
    rw [State.ctx] at hfree
    rw [State.blocks, State.blocks, h]
    omega
  · rw [State.blocks, State.blocks, h, List.set_eq_of_length_le hk, hout hk]

theorem State.blocks_of_record {s t : State} {k : Nat} {d : Context} (h : t.ctxs = s.ctxs.set k d)
    (hfree : t.pool.free = s.pool.free) (hd : d.playout = (s.ctx k).playout) : t.blocks = s.blocks :=
  State.blocks_of_set h (fun _ => hfree) fun _ => by rw [hfree, Context.blocksHeld_eq, hd, Context.blocksHeld_eq]

/-- R91: a context that is not ACTIVE holds no playout entry. -/
def Context.emptyUnlessActive (c : Context) : Prop := c.state ≠ .active → c.playout = []

theorem RecordEvent.emptyUnlessActive {s : State} {k : Nat} {d : Context} (h : RecordEvent s k d) (htags : s.tagsActive)
    (hs : (s.ctx k).emptyUnlessActive) : d.emptyUnlessActive := by
  cases h with
  | touch _ _ h => rw [h.frame]; exact hs
  | swap | started | encoded => exact hs
  | answered =>
    intro h
    have hempty := hs h
    simp only [Context.startJob, Context.takeFront]
    split <;> simp [hempty]
  | freed => exact fun h => hs (mt Context.freed_active.mpr h)
  | decoded j hj hactive => exact fun h => absurd (Context.freed_active.mpr hactive) h
  | requeued _ _ _ _ h hlive =>
    have hactive : (s.ctx k).state = .active := by
      obtain h | ⟨p, hp, rfl⟩ := hlive
      · exact h
      · exact (htags.2 p hp).2
    rw [h.frame]
    exact fun hne => absurd hactive hne
  | opened => exact fun _ => rfl
  | closed => exact fun _ => rfl

theorem Context.blocksHeld_takeFront {c : Context} (h : c.queued) :
    c.takeFront.blocksHeld + ((c.expected.bind fun x => entryAtZero c x).map (·.blocks)).getD 0 = c.blocksHeld := by
  have hord := h.2
  cases hx : c.expected with
  | none => rw [Context.takeFront_of_none hx]; rfl
  | some x =>
    rw [hx] at hord
    have hfront := blocksOf_takeFront hord.1
    have hplayout : c.takeFront.playout = c.playout.filter fun e => decide (e.seq ≠ x) := by simp [Context.takeFront, hx]
    rw [Context.blocksHeld_eq, hplayout, Context.blocksHeld_eq]
    exact hfront

theorem Event.blocks {s t : State} (h : Event s t) (hqueues : s.playoutLaw) (hempty : ∀ c ∈ s.ctxs, c.emptyUnlessActive)
    (hs : s.blocks = 4096) : t.blocks = 4096 := by
  rw [State.playoutLaw_iff] at hqueues
  obtain ⟨htags, hqueues⟩ := hqueues
  have hqueued := State.ctx_of_forall (P := Context.queued) hqueues ⟨fun h => (by cases h), rfl⟩
  have hnone := State.ctx_of_forall (P := Context.emptyUnlessActive) hempty fun _ => rfl
  have record : ∀ {k d}, t.ctxs = s.ctxs.set k d → t.pool.free = s.pool.free → d.playout = (s.ctx k).playout →
      t.blocks = 4096 := fun hctxs hfree hd => (State.blocks_of_record hctxs hfree hd).trans hs
  cases h with
  | port | status | fetchUnit | ingressClock | egressClock | timeout | noticeConsumer | withdrawEncode | requestEncode | queued
  | admitPlain | admitNotice | handover | stop => exact hs
  | notice _ h hfree =>
    rw [State.blocks, hfree, h.ctxs]
    exact hs
  | egressConsumer => rw [State.egressConsumer_eq]; exact hs
  | start => rw [State.startEffect_eq]; exact hs
  | touch k d h => exact record (k := k) (d := d) rfl rfl (by rw [h.frame])
  | swap k => exact record (k := k) rfl rfl rfl
  | startEncode k => exact record (k := k) rfl rfl rfl
  | encoded j => exact record (k := j.ctx) rfl rfl rfl
  | encodeDone j => exact record (k := j.ctx) rfl rfl rfl
  | decoded j =>
    rw [State.freeLane_modCtx] at record ⊢
    exact record (k := j.ctx) rfl rfl rfl
  | decodeDropped j => exact record (k := j.ctx) rfl rfl rfl
  | admitEgress k =>
    rw [State.examineReady_erw] at record ⊢
    exact record (k := k) rfl rfl rfl
  | discard k => exact record (k := k) rfl rfl rfl
  | startDecode k =>
    obtain ⟨u, hfill, hfree, heq⟩ := s.startDecode_refill k
    rw [heq]
    refine (State.blocks_of_set (s := s) (k := k) rfl (fun hk => ?_) fun _ => ?_).trans hs
    · have hanswer : s.answerBlocks k = 0 := by
        rw [State.answerBlocks, State.playoutAnswer, s.ctx_of_length_le hk]
        rfl
      exact hfree.trans (by rw [hanswer, Nat.add_zero])
    · have hfront := Context.blocksHeld_takeFront (hqueued k)
      have hfree' : u.pool.free + (s.ctx k).takeFront.blocksHeld =
          s.pool.free + ((s.ctx k).takeFront.blocksHeld + s.answerBlocks k) := by rw [hfree]; omega
      exact hfree'.trans (congrArg (s.pool.free + ·) hfront)
  | requeue u k d hfill h hlive =>
    have hactive : (s.ctx k).state = .active := by
      obtain h | ⟨p, hp, rfl⟩ := hlive
      · exact h
      · exact (htags.2 p hp).2
    obtain ⟨hq, hq', hd⟩ := (hqueued k).1 hactive
    obtain ⟨-, -, hsum⟩ := h.queue hq hq' hd (hqueued k).2
    refine (State.blocks_of_set (s := s) (t := u.setCtx k d) (k := k) (congrArg (List.set · k d) hfill.ctxs) (fun hk => ?_) fun _ => hsum).trans hs
    exact absurd (s.lt_length_of_active hactive) (Nat.not_lt.mpr hk)
  | openContext k _ hopen =>
    have hclosed := (State.openRefusal_eq_none_iff.mp hopen).2.1
    have hzero : (s.ctx k).playout = [] := hnone k (by simp [hclosed])
    rw [State.openEffect_eq] at record ⊢
    exact record (k := k) rfl rfl hzero.symm
  | close k tag hactive =>
    have hk := s.lt_length_of_active hactive
    rw [State.closeEffect_eq tag hk]
    refine (State.blocks_of_set (s := s) (k := k) rfl (fun hk' => absurd hk (Nat.not_lt.mpr hk')) fun _ => ?_).trans hs
    exact (State.returnEach_free s _)
  | clear =>
    have hmap : (s.ctxs.map Context.atClear).map Context.blocksHeld = s.ctxs.map fun _ => 0 := by
      rw [List.map_map]
      rfl
    show 4096 + ((s.ctxs.map Context.atClear).map Context.blocksHeld).sum = 4096
    rw [hmap]
    simp
  | reset =>
    show 4096 + ((List.replicate 384 Context.cleared).map Context.blocksHeld).sum = 4096
    rw [List.map_replicate, List.sum_replicate]
    rfl

theorem Event.poolLaw {s t : State} (h : Event s t) (hqueues : s.playoutLaw) (hs : s.poolLaw) : t.poolLaw := by
  obtain ⟨htags, hempty, hsum⟩ := hs
  exact ⟨h.tagsActive htags, h.forall_ctxs (P := Context.emptyUnlessActive) hempty (fun _ _ hd => hd.emptyUnlessActive htags)
    (fun _ _ _ => rfl) fun _ => rfl, h.blocks hqueues hempty hsum⟩

/-- Settles O57: LOW is examined after each change of the free count, and blocks move only between it and the playout queues. -/
theorem poolLawKept : Obligations.PoolLawKept := by
  intro s t hstep
  refine ⟨step_keeps_of_event (P := State.lowLaw) (fun _ _ => Event.lowLaw) hstep, fun hqueues hpool => ?_⟩
  have hboth : t.playoutLaw ∧ t.poolLaw := step_keeps_of_event (P := fun s => s.playoutLaw ∧ s.poolLaw)
    (fun _ _ h hs => ⟨h.playoutLaw hs.1, h.poolLaw hs.1 hs.2⟩) hstep ⟨hqueues, hpool⟩
  exact hboth.2

end Sys2Proof.Machine

/-! The job laws (R69, R90, R91, R132, R134, R138) and the slots of the waiting egress groups (R159, R162): what each event does to
the counts that the law of one context compares. -/
namespace Sys2Proof.Machine

/-! ### Counts of pending and running jobs and of waiting groups -/

theorem countP_lt_of_imp {α : Type} {p q : α → Bool} {l : List α} (h : ∀ a ∈ l, p a = true → q a = true) {a : α} (ha : a ∈ l)
    (hq : q a = true) (hp : p a = false) : l.countP p < l.countP q := by
  obtain ⟨l₁, l₂, rfl⟩ := List.append_of_mem ha
  have h₁ : l₁.countP p ≤ l₁.countP q := List.countP_mono_left fun b hb => h b (by simp [hb])
  have h₂ : l₂.countP p ≤ l₂.countP q := List.countP_mono_left fun b hb => h b (by simp [hb])
  simp only [List.countP_append, List.countP_cons, hq, hp, if_true]
  simp only [Bool.false_eq_true, if_false]
  omega

section
variable (jobs : List Job) (running : List Running) (waiting : List Group) (i k : Nat) (kind kind' : JobKind)

/-- The pending jobs of a context and kind, in a list. -/
def pendingIn : Nat := jobs.count (Job.mk k kind)

/-- The running jobs of a context and kind, in a list. -/
def runningIn : Nat := running.countP fun r => decide (r.job = Job.mk k kind)

/-- The running encode jobs of a context that wait for their group, in a list. -/
def waitsIn : Nat := running.countP (Running.waitsFor k)

/-- The egress frame groups of a context, in a list. -/
def groupsIn : Nat := waiting.countP (Group.egressOf k)

theorem pendingIn_append : pendingIn (jobs ++ [Job.mk i kind']) k kind =
    pendingIn jobs k kind + if k = i ∧ kind = kind' then 1 else 0 := by
  rw [pendingIn, List.count_append, List.count_singleton]
  by_cases h : k = i ∧ kind = kind'
  · obtain ⟨rfl, rfl⟩ := h
    simp [pendingIn]
  · rw [if_neg h, if_neg (by simp only [beq_iff_eq, Job.mk.injEq]; tauto)]
    rfl

theorem pendingIn_filter : pendingIn (jobs.filter fun j => decide (j ≠ Job.mk i kind')) k kind =
    if k = i ∧ kind = kind' then 0 else pendingIn jobs k kind := by
  unfold pendingIn
  by_cases h : k = i ∧ kind = kind'
  · obtain ⟨rfl, rfl⟩ := h
    simp [List.count_eq_zero, List.mem_filter]
  · rw [if_neg h, List.count_filter (by simp only [ne_eq, Job.mk.injEq, h, not_false_eq_true, decide_true])]

theorem pendingIn_filter_ctx : pendingIn (jobs.filter fun j => decide (j.ctx ≠ i)) k kind =
    if k = i then 0 else pendingIn jobs k kind := by
  unfold pendingIn
  by_cases h : k = i
  · subst h
    simp [List.count_eq_zero, List.mem_filter]
  · rw [if_neg h, List.count_filter (by simpa using h)]

theorem runningIn_append (r : Running) : runningIn (running ++ [r]) k kind =
    runningIn running k kind + if r.job = Job.mk k kind then 1 else 0 := by
  rw [runningIn, List.countP_append, List.countP_singleton]
  simp [runningIn]

theorem runningIn_filter : runningIn (running.filter fun r => decide (r.job ≠ Job.mk i kind')) k kind =
    if k = i ∧ kind = kind' then 0 else runningIn running k kind := by
  unfold runningIn
  rw [List.countP_filter]
  by_cases h : k = i ∧ kind = kind'
  · obtain ⟨rfl, rfl⟩ := h
    simp
  · rw [if_neg h]
    refine List.countP_congr fun r _ => ?_
    by_cases hr : r.job = Job.mk k kind
    · simp only [hr, ne_eq, Job.mk.injEq, h, not_false_eq_true, decide_true, Bool.and_self]
    · simp [hr]

theorem waitsIn_append {r : Running} (h : r.waitsFor k = false) : waitsIn (running ++ [r]) k = waitsIn running k := by
  rw [waitsIn, List.countP_append, List.countP_singleton]
  simp [waitsIn, h]

theorem waitsIn_filter : waitsIn (running.filter fun r => decide (r.job ≠ Job.mk i kind')) k =
    if k = i ∧ kind' = .encode then 0 else waitsIn running k := by
  unfold waitsIn
  rw [List.countP_filter]
  by_cases h : k = i ∧ kind' = .encode
  · obtain ⟨rfl, rfl⟩ := h
    rw [if_pos ⟨rfl, rfl⟩]
    refine List.countP_eq_zero.mpr fun r _ => ?_
    cases r <;> simp +contextual [Running.waitsFor, Running.job]
  · rw [if_neg h]
    refine List.countP_congr fun r _ => ?_
    cases r with
    | encode j =>
      simp only [Running.waitsFor, Running.job]
      grind
    | decode j => simp [Running.waitsFor]

/-- Once they are marked, every running encode job of the context waits. -/
theorem waitsIn_marked : waitsIn (running.map (Running.marked i)) k =
    if k = i then runningIn running k .encode else waitsIn running k := by
  unfold waitsIn runningIn
  rw [List.countP_map]
  split
  · rename_i h
    subst h
    refine List.countP_congr fun r _ => ?_
    cases r with
    | encode j => by_cases hj : j.ctx = k <;> simp [Running.marked, Running.waitsFor, Running.job, hj]
    | decode j => simp [Running.marked, Running.waitsFor, Running.job]
  · rename_i h
    refine List.countP_congr fun r _ => ?_
    cases r with
    | encode j =>
      by_cases hj : j.ctx = i
      · simp [Running.marked, Running.waitsFor, hj, Ne.symm h]
      · simp [Running.marked, Running.waitsFor, hj]
    | decode j => simp [Running.marked, Running.waitsFor]

theorem runningIn_marked : runningIn (running.map (Running.marked i)) k kind = runningIn running k kind := by
  unfold runningIn
  rw [List.countP_map]
  refine List.countP_congr fun r _ => ?_
  cases r with
  | encode j => by_cases hj : j.ctx = i <;> simp [Running.marked, Running.job, hj]
  | decode j => simp [Running.marked, Running.job]

theorem groupsIn_append_notices {gs : List Group} (h : ∀ g ∈ gs, g.smallNotice) : groupsIn (waiting ++ gs) k = groupsIn waiting k := by
  have hnone : gs.countP (Group.egressOf k) = 0 := List.countP_eq_zero.mpr fun g hg => by
    obtain ⟨ws, rfl, -⟩ := h g hg
    simp [Group.egressOf]
  rw [groupsIn, List.countP_append, hnone]
  rfl

theorem groupsIn_moveBack (ne : Nat) : groupsIn (waiting.map (Group.moveBack ne)) k = groupsIn waiting k := by
  unfold groupsIn
  rw [List.countP_map]
  refine List.countP_congr fun g _ => ?_
  cases g <;> simp [Group.moveBack, Group.egressOf]

theorem groupsIn_cons (g : Group) : groupsIn (g :: waiting) k = groupsIn waiting k + if g.egressOf k then 1 else 0 :=
  List.countP_cons ..

theorem groupsIn_append_one (g : Group) : groupsIn (waiting ++ [g]) k = groupsIn waiting k + if g.egressOf k then 1 else 0 := by
  rw [groupsIn, List.countP_append, List.countP_singleton]
  rfl

/-- Among the running encode jobs of a context, those that wait are fewer while one still works. -/
theorem waitsIn_lt {j : EncodeJob} (hj : Running.encode j ∈ running) (hwaiting : j.waiting = false) :
    waitsIn running j.ctx < runningIn running j.ctx .encode := by
  unfold waitsIn runningIn
  refine countP_lt_of_imp (fun r _ hr => ?_) hj (by simp [Running.job]) (by simp [Running.waitsFor, hwaiting])
  cases r with
  | encode i =>
    simp only [Running.waitsFor, Bool.and_eq_true, decide_eq_true_eq] at hr
    simp [Running.job, hr.1]
  | decode i => simp [Running.waitsFor] at hr

theorem waitsIn_le : waitsIn running k ≤ runningIn running k .encode := by
  refine List.countP_mono_left fun r _ hr => ?_
  cases r with
  | encode j =>
    simp only [Running.waitsFor, Bool.and_eq_true, decide_eq_true_eq] at hr
    simp [Running.job, hr.1]
  | decode j => simp [Running.waitsFor] at hr

end

/-! ### The law of one context's jobs -/

/-- What the job law of one context compares. -/
structure JobView where
  runningJobs : Nat
  encRunning  : Nat
  decRunning  : Nat
  encPending  : Nat
  decPending  : Nat
  groups      : Nat
  waits       : Nat
  state       : CtxState
  downlink    : Bool
  nReady      : Bool

/-- The job law of one context. -/
def JobView.lawful (v : JobView) : Prop :=
  v.runningJobs = v.encRunning + v.decRunning ∧
    v.encRunning ≤ 1 ∧ v.decRunning ≤ 1 ∧ v.encPending ≤ 1 ∧ v.decPending ≤ 1 ∧ v.groups = v.waits ∧
    (match v.state with
      | .active =>
        (v.downlink = true → v.decPending + v.decRunning + v.nReady.toNat = 1) ∧
        (v.downlink = false → v.decPending = 0 ∧ v.decRunning = 0)
      | .closing => v.encPending = 0 ∧ v.decPending = 0 ∧ 1 ≤ v.runningJobs
      | .closed => v.encPending = 0 ∧ v.decPending = 0 ∧ v.runningJobs = 0)

/-- The counts of a context whose record is `c`. -/
def viewOf (c : Context) (jobs : List Job) (running : List Running) (waiting : List Group) (k : Nat) : JobView :=
  { runningJobs := c.runningJobs
    encRunning := runningIn running k .encode, decRunning := runningIn running k .decode
    encPending := pendingIn jobs k .encode, decPending := pendingIn jobs k .decode
    groups := groupsIn waiting k, waits := waitsIn running k
    state := c.state, downlink := c.cfg.downlink, nReady := c.nReady }

/-- The counts of a context. -/
def State.jobView (s : State) (k : Nat) : JobView := viewOf (s.ctx k) s.engine.jobs s.engine.running s.pwq.waiting k

theorem State.contextJobs_iff {s : State} {k : Nat} : s.contextJobs k ↔ (s.jobView k).lawful := Iff.rfl

section
variable {v : JobView}

theorem JobView.lawful.encWithdrawn (h : v.lawful) : { v with encPending := 0 }.lawful := by
  obtain ⟨hrun, henc, hdec, -, hdp, hgroups, hstate⟩ := h
  refine ⟨hrun, henc, hdec, Nat.zero_le 1, hdp, hgroups, ?_⟩
  cases hs : v.state <;> simp_all

theorem JobView.lawful.encRequested (h : v.lawful) (hactive : v.state = .active) (hnew : v.encPending = 0) :
    { v with encPending := v.encPending + 1 }.lawful := by
  obtain ⟨hrun, henc, hdec, -, hdp, hgroups, hstate⟩ := h
  refine ⟨hrun, henc, hdec, by simp [hnew], hdp, hgroups, ?_⟩
  simp_all

theorem JobView.lawful.swapped (h : v.lawful) (hactive : v.state = .active) (hdown : v.downlink = true) (hready : v.nReady = true) :
    { v with decPending := v.decPending + 1, nReady := false }.lawful := by
  obtain ⟨hrun, henc, hdec, hep, hdp, hgroups, hstate⟩ := h
  simp only [hactive, hready] at hstate
  have hone := hstate.1 hdown
  simp only [Bool.toNat_true] at hone
  refine ⟨hrun, henc, hdec, hep, ?_, hgroups, ?_⟩
  · show v.decPending + 1 ≤ 1
    omega
  · simp only [hactive, hdown]
    simp
    omega

theorem JobView.lawful.encStarted (h : v.lawful) (hidle : v.encRunning = 0) (hpending : 1 ≤ v.encPending) :
    { v with runningJobs := v.runningJobs + 1, encRunning := v.encRunning + 1, encPending := 0 }.lawful := by
  obtain ⟨hrun, henc, hdec, hep, hdp, hgroups, hstate⟩ := h
  refine ⟨?_, ?_, hdec, Nat.zero_le 1, hdp, hgroups, ?_⟩
  · show v.runningJobs + 1 = v.encRunning + 1 + v.decRunning
    omega
  · show v.encRunning + 1 ≤ 1
    omega
  · cases hs : v.state <;> simp_all

theorem JobView.lawful.decStarted (h : v.lawful) (hpending : 1 ≤ v.decPending) :
    { v with runningJobs := v.runningJobs + 1, decRunning := v.decRunning + 1, decPending := 0 }.lawful := by
  obtain ⟨hrun, henc, hdec, hep, hdp, hgroups, hstate⟩ := h
  have hactive : v.state = .active := by
    cases hs : v.state with
    | active => rfl
    | closing | closed => simp only [hs] at hstate; omega
  simp only [hactive] at hstate
  cases hd : v.downlink with
  | false =>
    have := hstate.2 hd
    omega
  | true =>
    have hone := hstate.1 hd
    refine ⟨?_, henc, ?_, hep, Nat.zero_le 1, hgroups, ?_⟩
    · show v.runningJobs + 1 = v.encRunning + (v.decRunning + 1)
      omega
    · show v.decRunning + 1 ≤ 1
      omega
    · simp only [hactive]
      simp
      omega

theorem JobView.lawful.handedOff (h : v.lawful) (hworks : v.waits < v.encRunning) :
    { v with groups := v.groups + 1, waits := v.encRunning }.lawful := by
  obtain ⟨hrun, henc, hdec, hep, hdp, hgroups, hstate⟩ := h
  refine ⟨hrun, henc, hdec, hep, hdp, ?_, hstate⟩
  show v.groups + 1 = v.encRunning
  omega

/-- The state of a context once one of its jobs is done (R104). -/
def JobView.freedState (v : JobView) : CtxState := if v.state = .closing ∧ v.runningJobs ≤ 1 then .closed else v.state

theorem JobView.lawful.encFreed (h : v.lawful) (hone : 1 ≤ v.encRunning) {groups : Nat} (hgroups : groups = 0) :
    { v with
      runningJobs := v.runningJobs - 1, encRunning := 0, waits := 0, groups := groups, state := v.freedState }.lawful := by
  obtain ⟨hrun, henc, hdec, hep, hdp, -, hstate⟩ := h
  refine ⟨?_, Nat.zero_le 1, hdec, hep, hdp, hgroups, ?_⟩
  · show v.runningJobs - 1 = 0 + v.decRunning
    omega
  · cases hs : v.state with
    | active => simpa [JobView.freedState, hs] using hstate
    | closed => simp only [hs] at hstate; omega
    | closing =>
      simp only [hs] at hstate
      by_cases hlast : v.runningJobs ≤ 1
      · simp only [JobView.freedState, hs, hlast, and_self, if_true]
        omega
      · simp only [JobView.freedState, hs, hlast, and_false, if_false]
        omega

theorem JobView.lawful.decFreed (h : v.lawful) (hone : 1 ≤ v.decRunning) (hstate' : v.state ≠ .active) :
    { v with runningJobs := v.runningJobs - 1, decRunning := 0, state := v.freedState }.lawful := by
  obtain ⟨hrun, henc, hdec, hep, hdp, hgroups, hstate⟩ := h
  refine ⟨?_, henc, Nat.zero_le 1, hep, hdp, hgroups, ?_⟩
  · show v.runningJobs - 1 = v.encRunning + 0
    omega
  · cases hs : v.state with
    | active => exact absurd hs hstate'
    | closed => simp only [hs] at hstate; omega
    | closing =>
      simp only [hs] at hstate
      by_cases hlast : v.runningJobs ≤ 1
      · simp only [JobView.freedState, hs, hlast, and_self, if_true]
        omega
      · simp only [JobView.freedState, hs, hlast, and_false, if_false]
        omega

theorem JobView.lawful.decDone (h : v.lawful) (hone : 1 ≤ v.decRunning) (hactive : v.state = .active) :
    { v with runningJobs := v.runningJobs - 1, decRunning := 0, nReady := true }.lawful := by
  obtain ⟨hrun, henc, hdec, hep, hdp, hgroups, hstate⟩ := h
  simp only [hactive] at hstate
  refine ⟨?_, henc, Nat.zero_le 1, hep, hdp, hgroups, ?_⟩
  · show v.runningJobs - 1 = v.encRunning + 0
    omega
  · simp only [hactive]
    cases hd : v.downlink with
    | false =>
      have := hstate.2 hd
      omega
    | true =>
      have := hstate.1 hd
      simp
      omega

theorem JobView.lawful.joined (h : v.lawful) (hclosed : v.state = .closed) (downlink : Bool) :
    { v with
      runningJobs := 0, decPending := v.decPending + downlink.toNat, state := .active, downlink := downlink
      nReady := false }.lawful := by
  obtain ⟨hrun, henc, hdec, hep, hdp, hgroups, hstate⟩ := h
  simp only [hclosed] at hstate
  refine ⟨?_, henc, hdec, hep, ?_, hgroups, ?_⟩
  · show 0 = v.encRunning + v.decRunning
    omega
  · show v.decPending + downlink.toNat ≤ 1
    have := Bool.toNat_le downlink
    omega
  · cases downlink with
    | true => simp; omega
    | false => simp; omega

theorem JobView.lawful.left (h : v.lawful) :
    { v with encPending := 0, decPending := 0, state := if v.runningJobs = 0 then .closed else .closing }.lawful := by
  obtain ⟨hrun, henc, hdec, -, -, hgroups, -⟩ := h
  refine ⟨hrun, henc, hdec, Nat.zero_le 1, Nat.zero_le 1, hgroups, ?_⟩
  by_cases hzero : v.runningJobs = 0
  · simp [hzero]
  · simp only [hzero, if_false, true_and]
    omega

end

end Sys2Proof.Machine

namespace Sys2Proof.Machine

/-! ### The job laws, event by event -/

section
variable {s t : State}

/-- A context whose record keeps what its job law looks at, beside groups of other blocks. -/
theorem viewOf_congr {c d : Context} {jobs : List Job} {running : List Running} {waiting waiting' : List Group} {k : Nat}
    (hcount : d.runningJobs = c.runningJobs) (hstate : d.state = c.state) (hdown : d.cfg.downlink = c.cfg.downlink)
    (hready : d.nReady = c.nReady) (hgroups : groupsIn waiting' k = groupsIn waiting k) :
    viewOf d jobs running waiting' k = viewOf c jobs running waiting k := by
  simp only [viewOf, hcount, hstate, hdown, hready, hgroups]

/-- New lists of jobs and groups that count the same for every context but one, and a new record for that one. -/
theorem lawful_update {jobs : List Job} {running : List Running} {waiting : List Group} {k : Nat} {d : Context}
    (hlen : s.ctxs.length = 384) (hs : ∀ j < 384, (s.jobView j).lawful)
    (hjobs : ∀ j, j ≠ k → ∀ kind, pendingIn jobs j kind = pendingIn s.engine.jobs j kind)
    (hrunning : ∀ j, j ≠ k → ∀ kind, runningIn running j kind = runningIn s.engine.running j kind)
    (hwaits : ∀ j, j ≠ k → waitsIn running j = waitsIn s.engine.running j)
    (hgroups : ∀ j, j ≠ k → groupsIn waiting j = groupsIn s.pwq.waiting j)
    (hk : k < 384 → (viewOf d jobs running waiting k).lawful) :
    ∀ j < 384, (viewOf ((s.setCtx k d).ctx j) jobs running waiting j).lawful := by
  intro j hj
  by_cases hjk : j = k
  · subst hjk
    rw [s.ctx_setCtx_self d (hlen ▸ hj)]
    exact hk hj
  · rw [s.ctx_setCtx_of_ne d hjk]
    have := hs j hj
    simpa only [State.jobView, viewOf, hjobs j hjk, hrunning j hjk, hwaits j hjk, hgroups j hjk] using this

/-- Waiting groups that count the same for every context, the records and jobs as they were. -/
theorem lawful_of_groups {waiting : List Group} (hs : ∀ j < 384, (s.jobView j).lawful)
    (hgroups : ∀ j, groupsIn waiting j = groupsIn s.pwq.waiting j) :
    ∀ j < 384, (viewOf (s.ctx j) s.engine.jobs s.engine.running waiting j).lawful := by
  intro j hj
  rw [viewOf_congr rfl rfl rfl rfl (hgroups j)]
  exact hs j hj

theorem Refill.groupsIn {u : State} (h : Refill s u) (k : Nat) : groupsIn u.pwq.waiting k = groupsIn s.pwq.waiting k := by
  obtain ⟨gs, heq, hgs⟩ := h.groups
  rw [heq]
  exact groupsIn_append_notices _ _ hgs

/-- A job of a lane is counted. -/
theorem runningIn_pos {running : List Running} {r : Running} (h : r ∈ running) : 1 ≤ runningIn running r.job.ctx r.job.kind :=
  List.one_le_countP_iff.mpr ⟨r, h, by simp⟩

theorem pendingIn_pos {jobs : List Job} {j : Job} (h : j ∈ jobs) : 1 ≤ pendingIn jobs j.ctx j.kind :=
  List.one_le_count_iff.mpr h

/-- The counts of a context one of whose jobs has left its lane. -/
theorem viewOf_freed (c : Context) (jobs : List Job) (running : List Running) (waiting : List Group) (k : Nat) (kind : JobKind) :
    viewOf c.freed jobs (running.filter fun r => decide (r.job ≠ Job.mk k kind)) waiting k =
      { viewOf c jobs running waiting k with
        runningJobs := c.runningJobs - 1
        encRunning := if kind = .encode then 0 else runningIn running k .encode
        decRunning := if kind = .decode then 0 else runningIn running k .decode
        waits := if kind = .encode then 0 else waitsIn running k
        state := (viewOf c jobs running waiting k).freedState } := by
  simp only [viewOf, runningIn_filter, waitsIn_filter, Context.freed, JobView.freedState, true_and, eq_comm]

/-- An encode job that has left its lane, with no group of its context left waiting. -/
theorem lawful_encFreed {waiting : List Group} {k : Nat} (hlen : s.ctxs.length = 384) (hs : ∀ j < 384, (s.jobView j).lawful)
    (hone : k < 384 → 1 ≤ runningIn s.engine.running k .encode) (hgroups : ∀ j, j ≠ k → groupsIn waiting j = groupsIn s.pwq.waiting j)
    (hnone : k < 384 → groupsIn waiting k = 0) :
    ∀ j < 384, (viewOf ((s.setCtx k (s.ctx k).freed).ctx j) s.engine.jobs
      (s.engine.running.filter fun r => decide (r.job ≠ Job.mk k .encode)) waiting j).lawful := by
  refine lawful_update hlen hs (fun _ _ _ => rfl) (fun j hj kind => ?_) (fun j hj => ?_) hgroups fun hk => ?_
  · rw [runningIn_filter, if_neg (fun h => hj h.1)]
  · rw [waitsIn_filter, if_neg (fun h => hj h.1)]
  · rw [viewOf_freed]
    exact (hs k hk).encFreed (hone hk) (hnone hk)

/-- The encode job whose group was at the head of the order has left its lane, and its group the order. -/
theorem lawful_encDone {waiting : List Group} {k : Nat} (hlen : s.ctxs.length = 384) (hs : ∀ j < 384, (s.jobView j).lawful)
    (hgroups : ∀ j, groupsIn s.pwq.waiting j = groupsIn waiting j + if k = j then 1 else 0) :
    ∀ j < 384, (viewOf ((s.setCtx k (s.ctx k).freed).ctx j) s.engine.jobs
      (s.engine.running.filter fun r => decide (r.job ≠ Job.mk k .encode)) waiting j).lawful := by
  have hcounts : k < 384 → groupsIn waiting k + 1 ≤ runningIn s.engine.running k .encode ∧
      runningIn s.engine.running k .encode ≤ 1 := by
    intro hk
    obtain ⟨-, henc, -, -, -, hsame, -⟩ := hs k hk
    change groupsIn s.pwq.waiting k = waitsIn s.engine.running k at hsame
    have hle := waitsIn_le s.engine.running k
    have hself := hgroups k
    rw [if_pos rfl] at hself
    exact ⟨by omega, henc⟩
  refine lawful_encFreed hlen hs (fun hk => ?_) (fun j hj => ?_) fun hk => ?_
  · have := hcounts hk
    omega
  · rw [hgroups, if_neg (Ne.symm hj), Nat.add_zero]
  · have := hcounts hk
    omega

theorem filter_bne_job (jobs : List Job) (i : Job) : jobs.filter (· != i) = jobs.filter fun j => decide (j ≠ i) :=
  List.filter_congr fun _ _ => (decide_not ..).symm

theorem groupsIn_append_other {g : Group} {k : Nat} (waiting : List Group) (h : g.egressOf k = false) :
    groupsIn (waiting ++ [g]) k = groupsIn waiting k := by
  rw [groupsIn_append_one, h]
  rfl

theorem Event.contextJobs (h : Event s t) (hlen : s.ctxs.length = 384) (hs : ∀ j < 384, (s.jobView j).lawful) :
    ∀ j < 384, (t.jobView j).lawful := by
  have record : ∀ {k : Nat} {d : Context}, d.runningJobs = (s.ctx k).runningJobs → d.state = (s.ctx k).state →
      d.cfg.downlink = (s.ctx k).cfg.downlink → d.nReady = (s.ctx k).nReady →
        ∀ j < 384, (viewOf ((s.setCtx k d).ctx j) s.engine.jobs s.engine.running s.pwq.waiting j).lawful := by
    intro k d hcount hstate hdown hready
    refine lawful_update hlen hs (fun _ _ _ => rfl) (fun _ _ _ => rfl) (fun _ _ => rfl) (fun _ _ => rfl) fun hk => ?_
    rw [viewOf_congr hcount hstate hdown hready rfl]
    exact hs k hk
  have engine : ∀ {jobs running waiting} (k : Nat), (∀ j, j ≠ k → ∀ kind, pendingIn jobs j kind = pendingIn s.engine.jobs j kind) →
      (∀ j, j ≠ k → ∀ kind, runningIn running j kind = runningIn s.engine.running j kind) →
      (∀ j, j ≠ k → waitsIn running j = waitsIn s.engine.running j) →
      (∀ j, j ≠ k → groupsIn waiting j = groupsIn s.pwq.waiting j) →
      (k < 384 → (viewOf (s.ctx k) jobs running waiting k).lawful) →
        ∀ j < 384, (viewOf (s.ctx j) jobs running waiting j).lawful := by
    intro jobs running waiting k hjobs hrunning hwaits hgroups hk
    have hall := lawful_update hlen hs hjobs hrunning hwaits hgroups hk
    rwa [s.setCtx_ctx] at hall
  have empty : ∀ (waiting : List Group) (c : Nat → Context), (∀ k, groupsIn waiting k = 0) →
      (∀ k, (c k).state = .closed ∧ (c k).runningJobs = 0) → ∀ j < 384, (viewOf (c j) [] [] waiting j).lawful := by
    intro waiting c hgroups hc j _
    obtain ⟨hstate, hcount⟩ := hc j
    refine ⟨hcount, Nat.zero_le 1, Nat.zero_le 1, Nat.zero_le 1, Nat.zero_le 1, hgroups j, ?_⟩
    simp only [viewOf, hstate]
    exact ⟨rfl, rfl, hcount⟩
  cases h with
  | port | fetchUnit | ingressClock | egressClock | timeout | noticeConsumer | stop => exact hs
  | touch k d h => exact record (k := k) (d := d) (by rw [h.frame]) (by rw [h.frame]) (by rw [h.frame]) (by rw [h.frame])
  | notice u h =>
    rw [h.frame]
    exact lawful_of_groups (s := s) hs h.groupsIn
  | status w => exact lawful_of_groups (s := s) (waiting := s.pwq.waiting ++ [.status w]) hs fun j => groupsIn_append_other _ rfl
  | egressConsumer => rw [State.egressConsumer_eq]; exact hs
  | start =>
    have hwaiting := s.startEffect_waiting
    rw [State.startEffect_eq]
    refine lawful_of_groups (s := s) (waiting := s.startEffect.pwq.waiting) hs fun j => ?_
    rw [hwaiting]
    exact groupsIn_append_other _ rfl
  | withdrawEncode k =>
    refine engine (jobs := s.engine.jobs.filter (· != Job.mk k .encode)) k (fun j hj kind => ?_) (fun _ _ _ => rfl) (fun _ _ => rfl) (fun _ _ => rfl) fun hk => ?_
    · rw [filter_bne_job, pendingIn_filter, if_neg (fun h => hj h.1)]
    · have hview := (hs k hk).encWithdrawn
      rw [filter_bne_job]
      simp only [viewOf, pendingIn_filter, true_and, if_true, reduceCtorEq, if_false]
      exact hview
  | requestEncode k hactive hnew =>
    refine engine (jobs := s.engine.jobs ++ [Job.mk k .encode]) k (fun j hj kind => ?_) (fun _ _ _ => rfl) (fun _ _ => rfl) (fun _ _ => rfl) fun hk => ?_
    · rw [pendingIn_append, if_neg (fun h => hj h.1), Nat.add_zero]
    · have hview := (hs k hk).encRequested hactive (List.count_eq_zero.mpr hnew)
      simpa [viewOf, State.jobView, pendingIn_append] using hview
  | swap k hactive hdown hready =>
    refine lawful_update (jobs := s.engine.jobs ++ [Job.mk k .decode]) (d := (s.ctx k).swap) hlen hs (fun j hj kind => ?_)
      (fun _ _ _ => rfl) (fun _ _ => rfl) (fun _ _ => rfl) fun hk => ?_
    · rw [pendingIn_append, if_neg (fun h => hj h.1), Nat.add_zero]
    · have hview := (hs k hk).swapped hactive hdown hready
      simpa [viewOf, State.jobView, pendingIn_append, Context.swap] using hview
  | startEncode k h =>
    obtain ⟨-, ⟨hmem, heligible⟩, -⟩ := State.chosenJob_first h
    have hidle : runningIn s.engine.running k .encode = 0 := by
      refine List.countP_eq_zero.mpr fun r hr => ?_
      simpa using (State.eligible_iff.mp heligible).resolve_left (by simp) r hr
    rw [State.startEncode_eq]
    refine lawful_update (jobs := s.engine.jobs.filter fun j => decide (j ≠ Job.mk k .encode))
      (running := s.engine.running ++ [.encode (s.encodeCopies k)]) (d := (s.ctx k).startJob) hlen hs (fun j hj kind => ?_)
      (fun j hj kind => ?_) (fun j hj => waitsIn_append _ _ ?_) (fun _ _ => rfl) fun hk => ?_
    · rw [pendingIn_filter, if_neg (fun h => hj h.1)]
    · rw [runningIn_append, if_neg, Nat.add_zero]
      intro h
      cases h
      exact hj rfl
    · simp [Running.waitsFor, State.encodeCopies]
    · have hview := (hs k hk).encStarted hidle (pendingIn_pos hmem)
      have hwaits : waitsIn (s.engine.running ++ [.encode (s.encodeCopies k)]) k = waitsIn s.engine.running k :=
        waitsIn_append _ _ (by simp [Running.waitsFor, State.encodeCopies])
      have hjob : (Running.encode (s.encodeCopies k)).job = Job.mk k .encode := rfl
      simp only [viewOf, pendingIn_filter, runningIn_append, hwaits, hjob, Job.mk.injEq, true_and, if_true, reduceCtorEq,
        and_false, if_false, Nat.add_zero]
      exact hview
  | startDecode k h =>
    obtain ⟨-, ⟨hmem, -⟩, -⟩ := State.chosenJob_first h
    obtain ⟨u, hfill, -, heq⟩ := s.startDecode_refill k
    rw [heq]
    refine lawful_update (jobs := s.engine.jobs.filter fun j => decide (j ≠ Job.mk k .decode))
      (running := s.engine.running ++ [.decode (s.decodeCopies k)]) (waiting := u.pwq.waiting) (d := (s.ctx k).takeFront.startJob)
      hlen hs (fun j hj kind => ?_) (fun j hj kind => ?_) (fun j hj => waitsIn_append _ _ rfl) (fun j _ => hfill.groupsIn j) fun hk => ?_
    · rw [pendingIn_filter, if_neg (fun h => hj h.1)]
    · rw [runningIn_append, if_neg, Nat.add_zero]
      intro h
      cases h
      exact hj rfl
    · have hview := (hs k hk).decStarted (pendingIn_pos hmem)
      have hwaits : waitsIn (s.engine.running ++ [.decode (s.decodeCopies k)]) k = waitsIn s.engine.running k :=
        waitsIn_append _ _ rfl
      have hjob : (Running.decode (s.decodeCopies k)).job = Job.mk k .decode := rfl
      simp only [viewOf, pendingIn_filter, runningIn_append, hwaits, hjob, Job.mk.injEq, true_and, if_true, reduceCtorEq,
        and_false, if_false, Nat.add_zero, hfill.groupsIn]
      exact hview
  | encoded j => exact record (k := j.ctx) rfl rfl rfl rfl
  | queued j f hj hwaiting hactive =>
    rw [State.markWaiting_eq]
    refine engine (jobs := s.engine.jobs) (running := s.engine.running.map (Running.marked j.ctx))
      (waiting := s.pwq.waiting ++ [s.egressGroup j f]) j.ctx (fun _ _ _ => rfl) (fun i _ kind => runningIn_marked ..)
      (fun i hi => ?_) (fun i hi => groupsIn_append_other _ ?_) fun hk => ?_
    · rw [waitsIn_marked, if_neg hi]
    · simpa [State.egressGroup, Group.egressOf] using Ne.symm hi
    · have hview := (hs j.ctx hk).handedOff (waitsIn_lt _ hj hwaiting)
      simpa [viewOf, State.jobView, waitsIn_marked, runningIn_marked, groupsIn_append_one, State.egressGroup, Group.egressOf] using hview
  | encodeDone j hj hwaiting =>
    have hlt := waitsIn_lt _ hj hwaiting
    refine lawful_encFreed (s := s) (waiting := s.pwq.waiting) hlen hs (fun _ => by omega) (fun _ _ => rfl) fun hk => ?_
    obtain ⟨-, henc, -, -, -, hgroups, -⟩ := hs j.ctx hk
    change runningIn s.engine.running j.ctx .encode ≤ 1 at henc
    change groupsIn s.pwq.waiting j.ctx = waitsIn s.engine.running j.ctx at hgroups
    omega
  | decoded j hj hactive =>
    rw [State.freeLane_modCtx]
    refine lawful_update (running := s.engine.running.filter fun r => decide (r.job ≠ Job.mk j.ctx .decode))
      (s := s) (d := { (s.ctx j.ctx).takeDecoded (decodeWork j) with runningJobs := (s.ctx j.ctx).runningJobs - 1 }) hlen hs
      (fun _ _ _ => rfl) (fun i hi kind => ?_) (fun i hi => ?_) (fun _ _ => rfl) fun hk => ?_
    · rw [runningIn_filter, if_neg (fun h => hi h.1)]
    · rw [waitsIn_filter, if_neg (fun h => hi h.1)]
    · have hview := (hs j.ctx hk).decDone (runningIn_pos hj) hactive
      simp only [viewOf, runningIn_filter, waitsIn_filter, true_and, if_true, reduceCtorEq, and_false, if_false]
      exact hview
  | decodeDropped j hj hstate =>
    refine lawful_update (running := s.engine.running.filter fun r => decide (r.job ≠ Job.mk j.ctx .decode))
      (d := (s.ctx j.ctx).freed) hlen hs (fun _ _ _ => rfl) (fun i hi kind => ?_) (fun i hi => ?_) (fun _ _ => rfl) fun hk => ?_
    · rw [runningIn_filter, if_neg (fun h => hi h.1)]
    · rw [waitsIn_filter, if_neg (fun h => hi h.1)]
    · rw [viewOf_freed]
      exact (hs j.ctx hk).decFreed (runningIn_pos hj) hstate
  | admitPlain g rest hw hg =>
    refine lawful_of_groups (s := s) (waiting := rest) hs fun j => ?_
    have hnot : g.egressOf j = false := by cases g <;> first | rfl | cases hg
    rw [hw, groupsIn_cons, hnot]
    rfl
  | admitNotice ws rest hw =>
    refine lawful_of_groups (s := s) (waiting := rest) hs fun j => ?_
    rw [hw, groupsIn_cons]
    rfl
  | admitEgress k slot ws rest hw hstate =>
    rw [State.examineReady_erw]
    have hother : ∀ j, groupsIn s.pwq.waiting j = groupsIn rest j + if k = j then 1 else 0 := fun j => by
      rw [hw, groupsIn_cons]
      simp [Group.egressOf]
    exact lawful_encDone (s := s) hlen hs hother
  | discard k slot ws rest hw hstate =>
    have hother : ∀ j, groupsIn s.pwq.waiting j = groupsIn (rest.map (Group.moveBack s.win.ne)) j + if k = j then 1 else 0 := fun j => by
      rw [hw, groupsIn_cons, groupsIn_moveBack]
      simp [Group.egressOf]
    exact lawful_encDone (s := s) hlen hs hother
  | requeue u k d hfill h =>
    have hd := h.frame
    rw [hfill.frame]
    refine lawful_update (s := s) (waiting := u.pwq.waiting) (d := d) hlen hs (fun _ _ _ => rfl) (fun _ _ _ => rfl) (fun _ _ => rfl)
      (fun j _ => hfill.groupsIn j) fun hk => ?_
    rw [viewOf_congr (c := s.ctx k) (by rw [hd]) (by rw [hd]) (by rw [h.cfg]) (by rw [hd]) (hfill.groupsIn k)]
    exact hs k hk
  | openContext k hk hopen =>
    have hclosed := (State.openRefusal_eq_none_iff.mp hopen).2.1
    rw [State.openEffect_eq]
    generalize readCaptured s.shadow k = cfg
    refine lawful_update (s := s) (jobs := if cfg.downlink then s.engine.jobs ++ [Job.mk k .decode] else s.engine.jobs)
      (d := (s.ctx k).opened k cfg) hlen hs (fun j hj kind => ?_) (fun _ _ _ => rfl) (fun _ _ => rfl) (fun _ _ => rfl) fun hk => ?_
    · split
      · rw [pendingIn_append, if_neg (fun h => hj h.1), Nat.add_zero]
      · rfl
    · have hview := (hs k hk).joined hclosed cfg.downlink
      cases hdown : cfg.downlink with
      | true =>
        rw [hdown] at hview
        simp only [viewOf, pendingIn_append, true_and, if_true, reduceCtorEq, if_false, Context.opened, hdown]
        exact hview
      | false =>
        rw [hdown] at hview
        simp only [viewOf, Bool.false_eq_true, if_false, Context.opened, hdown]
        exact hview
  | handover => exact hs
  | close k tag hactive =>
    have hfill := s.returnEach_refill (s.ctx k).playout
    rw [State.closeEffect_eq tag (s.lt_length_of_active hactive)]
    refine lawful_update (s := s) (jobs := s.engine.jobs.filter fun j => decide (j.ctx ≠ k))
      (waiting := (s.returnEach (s.ctx k).playout).pwq.waiting) (d := (s.ctx k).closedBy tag) hlen hs (fun j hj kind => ?_)
      (fun _ _ _ => rfl) (fun _ _ => rfl) (fun j _ => hfill.groupsIn j) fun hk => ?_
    · rw [pendingIn_filter_ctx, if_neg hj]
    · have hview := (hs k hk).left
      simp only [viewOf, pendingIn_filter_ctx, if_true, hfill.groupsIn, Context.closedBy]
      exact hview
  | clear =>
    refine empty (s.pwq.waiting.filter Group.survivesClear) s.clearEffect.ctx (fun k => ?_) fun k => ⟨s.clearEffect_state k, ?_⟩
    · refine List.countP_eq_zero.mpr fun g hg => ?_
      obtain ⟨-, hsurvives⟩ := List.mem_filter.mp hg
      cases g with
      | egress => cases hsurvives
      | notice | status | indexReset => simp [Group.egressOf]
    · have hall : ∀ c ∈ s.clearEffect.ctxs, c.runningJobs = 0 := List.forall_mem_map.mpr fun _ _ => rfl
      exact State.ctx_of_forall (P := fun c => c.runningJobs = 0) hall rfl k
  | reset c m shadow =>
    exact empty [] (State.afterReset c m shadow s.mem).ctx (fun _ => rfl) fun k => by
      rw [State.afterReset_ctx]
      exact ⟨rfl, rfl⟩

theorem Event.jobs_lt (h : Event s t) (hlen : s.ctxs.length = 384) (hs : ∀ j ∈ s.engine.jobs, j.ctx < 384) :
    ∀ j ∈ t.engine.jobs, j.ctx < 384 := by
  obtain hsame | ⟨k, hk, -, rfl⟩ | ⟨k, -, rfl⟩ | ⟨k, tag, hactive, rfl⟩ | rfl | ⟨c, m, shadow, rfl⟩ := h.calls
  · exact fun j hj => (hsame.jobs j hj).elim (hs j) fun hactive => hlen ▸ s.lt_length_of_active hactive
  · rw [State.openEffect_eq]
    intro j hj
    change j ∈ (if (readCaptured s.shadow k).downlink then s.engine.jobs ++ [Job.mk k .decode] else s.engine.jobs) at hj
    split at hj
    · rcases List.mem_append.mp hj with hj | hj
      · exact hs j hj
      · rw [List.mem_singleton.mp hj]
        exact hk
    · exact hs j hj
  · exact hs
  · rw [State.closeEffect_eq tag (s.lt_length_of_active hactive)]
    exact fun j hj => hs j (List.mem_of_mem_filter hj)
  · exact fun j hj => by cases hj
  · exact fun j hj => by cases hj

theorem Event.jobLaw (h : Event s t) (hs : s.jobLaw) : t.jobLaw := by
  obtain ⟨hlen, hviews, hjobs, hrunning, hgroups⟩ := hs
  have hchosen : ∀ k kind, s.chosenJob = some (Job.mk k kind) → k < 384 := fun k kind hk =>
    hjobs _ (State.chosenJob_first hk).2.1.1
  refine ⟨h.length hlen, h.contextJobs hlen hviews, h.jobs_lt hlen hjobs, ?running, ?groups⟩
  case running =>
    refine h.forall_running hrunning (fun k => hchosen k _) (fun k => hchosen k _) fun k r hr => ?_
    cases r with
    | encode j =>
      simp only [Running.marked]
      split <;> exact hr
    | decode j => exact hr
  case groups =>
    refine h.forall_waiting (P := fun g => ∀ k, g.egressOf k = true → k < 384) hgroups ?_ (fun w k hk => by cases hk)
      (fun u k hk => by cases hk) (fun j f _ hactive _ k hk => ?_) fun g hg k hk => ?_
    · rintro g ⟨ws, rfl, -⟩ k hk
      cases hk
    · rw [← of_decide_eq_true hk]
      exact hlen ▸ s.lt_length_of_active hactive
    · refine hg k ?_
      cases g <;> exact hk

/-- Settles O59: each event moves the counts of one context, and moves them as its state allows. -/
theorem jobLawKept : Obligations.JobLawKept := fun _ _ hstep hs => step_keeps_of_event (fun _ _ => Event.jobLaw) hstep hs

/-! ### The slots of the waiting egress groups (R159, R162) -/

/-- The slots of the egress frame groups of an order, oldest first. -/
def slotsIn (waiting : List Group) : List Nat :=
  waiting.filterMap fun
    | .egress _ slot _ => some slot
    | .notice _ | .status _ | .indexReset _ => none

@[simp] theorem slotsIn_append (l m : List Group) : slotsIn (l ++ m) = slotsIn l ++ slotsIn m := List.filterMap_append

theorem slotsIn_notices {gs : List Group} (h : ∀ g ∈ gs, g.smallNotice) : slotsIn gs = [] :=
  List.filterMap_eq_nil_iff.mpr fun g hg => by
    obtain ⟨ws, rfl, -⟩ := h g hg
    rfl

theorem slotsIn_moveBack (ne : Nat) (l : List Group) :
    slotsIn (l.map (Group.moveBack ne)) = (slotsIn l).map fun n => (n + ne - 1) % ne := by
  induction l with
  | nil => rfl
  | cons g l ih =>
    cases g with
    | egress k slot ws => exact congrArg (_ :: ·) ih
    | notice | status | indexReset => exact ih

theorem slotsIn_eq_nil {l : List Group} (h : ∀ g ∈ l, ∀ k, g.egressOf k = false) : slotsIn l = [] :=
  List.filterMap_eq_nil_iff.mpr fun g hg => by
    cases g with
    | egress k slot ws => exact absurd (h _ hg k) (by simp [Group.egressOf])
    | notice | status | indexReset => rfl

/-- The slots from `producer` on, one after another round a ring of `ne`. -/
def slotsFrom (producer ne n : Nat) : List Nat := (List.range n).map fun i => (producer + i) % ne

theorem slotsFrom_succ (producer ne n : Nat) : slotsFrom producer ne (n + 1) = producer % ne :: slotsFrom ((producer + 1) % ne) ne n := by
  simp only [slotsFrom, List.range_succ_eq_map, List.map_cons, List.map_map, Nat.add_zero]
  refine congrArg (_ :: ·) (List.map_congr_left fun i _ => ?_)
  simp only [Function.comp, Nat.succ_eq_add_one, Nat.mod_add_mod]
  congr 1
  omega

theorem slotsFrom_append (producer ne n : Nat) : slotsFrom producer ne (n + 1) = slotsFrom producer ne n ++ [(producer + n) % ne] := by
  simp [slotsFrom, List.range_succ]

/-- R162: the slots behind the first, each moved back by one. -/
theorem slotsFrom_moveBack {ne : Nat} (hne : 0 < ne) (producer n : Nat) :
    (slotsFrom ((producer + 1) % ne) ne n).map (fun m => (m + ne - 1) % ne) = slotsFrom producer ne n := by
  simp only [slotsFrom, List.map_map]
  refine List.map_congr_left fun i _ => ?_
  simp only [Function.comp, Nat.mod_add_mod]
  have hstep : producer + 1 + i = producer + i + 1 := by omega
  rw [hstep]
  have hle : 1 ≤ ne := hne
  rw [Nat.add_sub_assoc hle, Nat.mod_add_mod]
  have : producer + i + 1 + (ne - 1) = producer + i + ne := by omega
  rw [this, Nat.add_mod_right]

/-- What the slot law says of the ring writer and the order. -/
def slotsKept (erw : Erw) (ne : Nat) (waiting : List Group) : Prop :=
  erw.waiting = (slotsIn waiting).length ∧ slotsIn waiting = slotsFrom erw.producer ne (slotsIn waiting).length

theorem State.slotLaw_iff : s.slotLaw ↔ (s.part.state = .idle → ∀ c ∈ s.ctxs, c.state = .closed) ∧
    (s.part.state = .running → 2 ≤ s.win.ne) ∧ slotsKept s.erw s.win.ne s.pwq.waiting := Iff.rfl

/-- A record that an event puts in place of a CLOSED one is CLOSED, but for an OPEN's. -/
theorem RecordEvent.closed_of_closed {k : Nat} {d : Context} (h : RecordEvent s k d) (hs : (s.ctx k).state = .closed)
    (hidle : s.part.state = .idle) : d.state = .closed := by
  cases h with
  | touch _ _ h => rw [h.frame]; exact hs
  | swap | started | answered | encoded => exact hs
  | freed => exact Context.freed_of_closed hs
  | decoded j _ hactive => exact absurd (hactive.symm.trans hs) (by decide)
  | requeued _ _ _ _ h => rw [h.frame]; exact hs
  | opened _ _ h => exact absurd ((State.openRefusal_eq_none_iff.mp h).1.symm.trans hidle) (by decide)
  | closed _ _ hactive => exact absurd (hactive.symm.trans hs) (by decide)

theorem Event.idleClosed (h : Event s t) (hs : s.part.state = .idle → ∀ c ∈ s.ctxs, c.state = .closed) :
    t.part.state = .idle → ∀ c ∈ t.ctxs, c.state = .closed := by
  intro hidle
  obtain hsame | ⟨-, rfl⟩ | ⟨-, hclosed⟩ := h.part
  · have hidle' : s.part.state = .idle := hsame ▸ hidle
    exact h.forall_ctxs (P := fun c => c.state = .closed) (hs hidle') (fun k d hd hk => hd.closed_of_closed hk hidle')
      (fun _ _ => rfl) rfl
  · rw [State.startEffect_eq] at hidle
    exact absurd hidle (by simp [State.startedPart])
  · exact hclosed

theorem Event.ringSize (h : Event s t) (hs : s.part.state = .running → 2 ≤ s.win.ne) : t.part.state = .running → 2 ≤ t.win.ne := by
  obtain hsame | ⟨hstart, rfl⟩ | ⟨hidle, -⟩ := h.part
  · rw [hsame, State.win_congr hsame]
    exact hs
  · have hok := Windows.rangesOk_iff.mp (State.layoutOk_ranges (State.startRefusal_eq_none hstart).2)
    rw [State.startEffect_eq]
    exact fun _ => show 2 ≤ (readWindows s.shadow).ne by omega
  · exact fun h => absurd (hidle.symm.trans h) (by decide)

/-- With every context CLOSED no egress frame group waits. -/
theorem slotsIn_of_closed (hjobs : s.jobLaw) (hclosed : ∀ c ∈ s.ctxs, c.state = .closed) : slotsIn s.pwq.waiting = [] := by
  obtain ⟨-, hviews, -, -, hgroups⟩ := hjobs
  refine slotsIn_eq_nil fun g hg k => ?_
  by_contra hk
  have hof : g.egressOf k = true := by simpa using hk
  have hk384 := hgroups g hg k hof
  obtain ⟨hrun, -, -, -, -, hsame, hstate⟩ := hviews k hk384
  rw [State.ctx_of_forall (P := fun c => c.state = .closed) hclosed rfl k] at hstate
  have hle := waitsIn_le s.engine.running k
  have hpos : 1 ≤ s.pwq.waiting.countP (Group.egressOf k) := List.one_le_countP_iff.mpr ⟨g, hg, hof⟩
  change (s.ctx k).runningJobs = runningIn s.engine.running k .encode + runningIn s.engine.running k .decode at hrun
  change s.pwq.waiting.countP (Group.egressOf k) = waitsIn s.engine.running k at hsame
  obtain ⟨-, -, hzero⟩ := hstate
  omega

theorem Event.slotsKept (h : Event s t) (hjobs : s.jobLaw) (hs : s.slotLaw) : slotsKept t.erw t.win.ne t.pwq.waiting := by
  have hlaw := State.slotLaw_iff.mp hs
  obtain ⟨hidle, hring, hcount, hslots⟩ := hlaw
  have hkept : Machine.slotsKept s.erw s.win.ne s.pwq.waiting := ⟨hcount, hslots⟩
  have same : ∀ {erw : Erw} {waiting : List Group}, erw.waiting = s.erw.waiting → erw.producer = s.erw.producer →
      slotsIn waiting = slotsIn s.pwq.waiting → Machine.slotsKept erw s.win.ne waiting := by
    intro erw waiting hw hp hwaiting
    rw [Machine.slotsKept, hwaiting, hw, hp]
    exact hkept
  have fill : ∀ {u}, Refill s u → slotsIn u.pwq.waiting = slotsIn s.pwq.waiting := by
    intro u hfill
    obtain ⟨gs, heq, hgs⟩ := hfill.groups
    rw [heq, slotsIn_append, slotsIn_notices hgs, List.append_nil]
  have behind : ∀ {k slot ws rest}, s.pwq.waiting = .egress k slot ws :: rest → s.erw.waiting - 1 = (slotsIn rest).length ∧
      slotsIn rest = slotsFrom ((s.erw.producer + 1) % s.win.ne) s.win.ne (slotsIn rest).length := by
    intro k slot ws rest hw
    have hcons : slotsIn s.pwq.waiting = slot :: slotsIn rest := by rw [hw]; rfl
    change s.erw.waiting = (slotsIn s.pwq.waiting).length at hcount
    change slotsIn s.pwq.waiting = slotsFrom s.erw.producer s.win.ne (slotsIn s.pwq.waiting).length at hslots
    rw [hcons, List.length_cons] at hcount hslots
    rw [slotsFrom_succ] at hslots
    exact ⟨by omega, (List.cons.inj hslots).2⟩
  cases h with
  | port | touch | fetchUnit | ingressClock | egressClock | timeout | noticeConsumer | withdrawEncode | requestEncode | swap
  | startEncode | encoded | encodeDone | decoded | decodeDropped | handover | stop => exact hkept
  | notice u h =>
    have hslots' := fill h
    rw [h.frame]
    exact same rfl rfl hslots'
  | status w => exact same rfl rfl (by simp [slotsIn])
  | egressConsumer =>
    obtain ⟨hp, -, hw⟩ := State.examineReady_indices ({ s with erw := { s.erw with consumer := field16 s.shadow 0x34 % s.win.ne } })
    rw [State.egressConsumer_eq]
    exact same hw hp rfl
  | startDecode k =>
    obtain ⟨u, hfill, -, heq⟩ := s.startDecode_refill k
    have hslots' := fill hfill
    rw [heq, hfill.frame]
    exact same rfl rfl hslots'
  | queued j f =>
    have hnew : slotsIn (s.pwq.waiting ++ [s.egressGroup j f]) =
        slotsIn s.pwq.waiting ++ [(s.erw.producer + s.erw.waiting) % s.win.ne] := slotsIn_append _ _
    have hlength : (slotsIn (s.pwq.waiting ++ [s.egressGroup j f])).length = (slotsIn s.pwq.waiting).length + 1 := by
      rw [hnew, List.length_append, List.length_singleton]
    refine ⟨(congrArg (· + 1) hcount).trans hlength.symm, ?_⟩
    show slotsIn (s.pwq.waiting ++ [s.egressGroup j f]) = slotsFrom s.erw.producer s.win.ne
      (slotsIn (s.pwq.waiting ++ [s.egressGroup j f])).length
    rw [hlength, slotsFrom_append, hnew, hcount]
    exact congrArg (· ++ _) hslots
  | admitPlain g rest hw hg =>
    refine same rfl rfl ?_
    rw [hw]
    cases g with
    | egress | notice => cases hg
    | status | indexReset => rfl
  | admitNotice ws rest hw => exact same rfl rfl (by rw [hw]; rfl)
  | admitEgress k slot ws rest hw =>
    obtain ⟨hwaiting, hrest⟩ := behind hw
    have hindices := State.examineReady_indices (({ s.entered (.egress k slot ws) rest with
      erw := { s.erw with producer := (s.erw.producer + 1) % s.win.ne, waiting := s.erw.waiting - 1 } }).freed k .encode)
    rw [State.examineReady_erw]
    refine ⟨hindices.2.2.trans hwaiting, ?_⟩
    refine hrest.trans ?_
    exact congrArg (slotsFrom · s.win.ne (slotsIn rest).length) hindices.1.symm
  | discard k slot ws rest hw hstate =>
    obtain ⟨hwaiting, hrest⟩ := behind hw
    have hrunning : s.part.state = .running := by
      cases hpart : s.part.state with
      | running => rfl
      | idle =>
        have hclosed := State.ctx_of_forall (hidle hpart) rfl k
        exact absurd (hclosed.symm.trans hstate) (by decide)
    have hne := hring hrunning
    have hback : slotsIn (rest.map (Group.moveBack s.win.ne)) = slotsFrom s.erw.producer s.win.ne (slotsIn rest).length := by
      rw [slotsIn_moveBack, hrest]
      simpa only [slotsFrom, List.length_map, List.length_range] using slotsFrom_moveBack (by omega) s.erw.producer (slotsIn rest).length
    have hlength : (slotsIn (rest.map (Group.moveBack s.win.ne))).length = (slotsIn rest).length := by
      rw [slotsIn_moveBack, List.length_map]
    refine ⟨hwaiting.trans hlength.symm, ?_⟩
    show slotsIn (rest.map (Group.moveBack s.win.ne)) = slotsFrom s.erw.producer s.win.ne
      (slotsIn (rest.map (Group.moveBack s.win.ne))).length
    rw [hlength, hback]
  | requeue u k d hfill =>
    have hslots' := fill hfill
    rw [hfill.frame]
    exact same rfl rfl hslots'
  | openContext k => rw [State.openEffect_eq]; exact hkept
  | close k tag hactive =>
    have hfill := s.returnEach_refill (s.ctx k).playout
    have hslots' := fill hfill
    rw [State.closeEffect_eq tag (s.lt_length_of_active hactive)]
    rw [hfill.frame]
    exact same rfl rfl hslots'
  | start h =>
    have hnone := slotsIn_of_closed hjobs (hidle (State.startRefusal_eq_none h).1)
    have hafter : slotsIn s.startEffect.pwq.waiting = [] := by
      rw [State.startEffect_waiting, slotsIn_append, hnone]
      rfl
    have hzero : s.startEffect.erw.waiting = 0 := by
      have hindices := State.examineReady_indices (({ s with
        part := s.startedPart
        clocks := { inPos := 0, inFrame := 0, frameNo := 0, outPos := 0, outFrame := 0 }
        erw := { s.erw with producer := 0, consumer := 0, latch := false }
        ntw := { s.ntw with producer := 0, consumer := 0, lost := false, timer := 0, latch := false } } : State).requestGroup
          (State.indexResetGroup { s with part := s.startedPart }))
      exact hindices.2.2.trans (hcount.trans (by rw [hnone]; rfl))
    rw [Machine.slotsKept, hafter, hzero]
    exact ⟨rfl, rfl⟩
  | clear =>
    have hnone : slotsIn (s.pwq.waiting.filter Group.survivesClear) = [] := slotsIn_eq_nil fun g hg k => by
      obtain ⟨-, hsurvives⟩ := List.mem_filter.mp hg
      cases g with
      | egress => cases hsurvives
      | notice | status | indexReset => rfl
    show Machine.slotsKept { s.erw with waiting := 0, ready := false } s.win.ne (s.pwq.waiting.filter Group.survivesClear)
    rw [Machine.slotsKept, hnone]
    exact ⟨rfl, rfl⟩
  | reset => exact ⟨rfl, rfl⟩

theorem Event.slotLaw (h : Event s t) (hjobs : s.jobLaw) (hs : s.slotLaw) : t.slotLaw :=
  ⟨h.idleClosed hs.1, h.ringSize hs.2.1, h.slotsKept hjobs hs⟩

/-- Settles O60: a frame reserves the slot behind the last, an admission moves the producer past the first, and a discard moves the
others back by one. -/
theorem slotLawKept : Obligations.SlotLawKept := by
  intro s t hstep hjobs hslots
  have hboth : t.jobLaw ∧ t.slotLaw := step_keeps_of_event (P := fun s => s.jobLaw ∧ s.slotLaw)
    (fun _ _ h hs => ⟨h.jobLaw hs.1, h.slotLaw hs.1 hs.2⟩) hstep ⟨hjobs, hslots⟩
  exact hboth.2

end

end Sys2Proof.Machine

/-! The rows of the command table as the operations they come to, and the statements about every row at once. -/
namespace Sys2Proof.Machine

/-! ### Rows -/

/-- The 16 rows that are a master write (R57, R58). -/
def writeRows (b : WriteBurst) : List Instr :=
  [.ingressPcmWrite b, .mobileIngressWrite b, .controlAreaWrite b, .egressConsumerWrite b, .noticeConsumerWrite b,
    .masterWrite b, .ctxOpen b, .ctxModify b, .ctxHandover b, .ctxClose b, .ctxReport b, .ctxBadCommand b, .ctlStart b,
    .ctlStop b, .ctlClear b, .ctlBadCommand b]

/-- Every row of a master write is the one operation of a granted write. -/
theorem exec_writeRow {b : WriteBurst} {c : Instr} (h : c ∈ writeRows b) (s : State) : exec c s = masterWriteAccess b s := by
  revert c
  simp only [writeRows, List.forall_mem_cons, List.not_mem_nil, false_imp_iff, implies_true, and_true]
  exact ⟨rfl, rfl, rfl, rfl, rfl, rfl, rfl, rfl, rfl, rfl, rfl, rfl, rfl, rfl, rfl, rfl⟩

theorem masterWriteAccess_of_not_wf {b : WriteBurst} (h : b.wf = false) (s : State) :
    masterWriteAccess b s = .fault .notABurst := if_neg (by simp [h])

theorem masterReadAccess_of_not_wf {b : ReadBurst} (h : b.wf = false) (s : State) :
    masterReadAccess b s = .fault .notABurst := if_neg (by simp [h])

/-- Settles O1. -/
theorem stepRunsFront : Obligations.StepRunsFront := by
  intro s c rest h
  simp only [step, h]

/-- Settles O3: every row is one of the two master accesses, which look at the operand first. -/
theorem illFormedBurst : Obligations.IllFormedBurst :=
  ⟨fun s _ hb _ hc => (exec_writeRow hc s).trans (masterWriteAccess_of_not_wf hb s),
    fun s _ hb => ⟨masterReadAccess_of_not_wf hb s, masterReadAccess_of_not_wf hb s⟩⟩

/-- Settles O5: both resets start from the reset state with the straps given. -/
theorem resetCommands : Obligations.ResetCommands := fun _ _ _ => ⟨rfl, rfl⟩

/-! ### Rows whose event cannot come about -/

section
variable {s : State} {k : Nat}

theorem State.workingEncode_eq_none (h : ∀ r ∈ s.engine.running, r.job.ctx ≠ k) : s.workingEncode k = none := by
  cases hj : s.workingEncode k with
  | none => rfl
  | some j =>
    obtain ⟨hmem, hctx, _⟩ := State.workingEncode_some hj
    exact absurd hctx (h _ hmem)

theorem State.runningDecode_eq_none (h : ∀ r ∈ s.engine.running, r.job.ctx ≠ k) : s.runningDecode k = none := by
  cases hj : s.runningDecode k with
  | none => rfl
  | some j =>
    obtain ⟨hmem, hctx⟩ := State.runningDecode_some hj
    exact absurd hctx (h _ hmem)

theorem State.encodeEnd_of_none (h : s.workingEncode k = none) : s.encodeEnd k = s := by simp only [State.encodeEnd, h]

theorem State.decodeEnd_of_none (h : s.runningDecode k = none) : s.decodeEnd k = s := by simp only [State.decodeEnd, h]

end

/-- Settles O2: a settled state is left as it is by settling, and each row finds its event missing. -/
theorem nothingDue : Obligations.NothingDue := by
  have hidle (s : State) (h : s.pending = []) : step s = .next s.settle := by simp only [step, h, idleStep]
  refine ⟨hidle, fun s hs => ?_⟩
  have hdue : s.dueStep = none := hs
  have hsettle : s.settle = s := State.settle_of_settled hs
  refine ⟨fun h => by rw [hidle s h, hsettle], ?_, ?_, ?_, ?_, ?_, fun hempty => ?_, fun hbuffer => ⟨?_, ?_⟩, fun k hk => ⟨?_, ?_⟩⟩
  · simp only [exec, execEncodeJobStart, hdue]
  · simp only [exec, execDecodeJobStart, hdue]
  · simp [exec, execGroupAdmission, hdue]
  · simp [exec, execGroupDiscard, hdue]
  · simp [exec, execQuietTimeout, hdue]
  · simp [exec, execDrain, hsettle, hempty]
  · simp [exec, execFetchHeaderRead, hsettle, State.headerClaimed, hbuffer]
  · simp [exec, execFetchBodyRead, hsettle, State.bodyClaimed, hbuffer]
  · simp only [exec, execEncodeEndOfWork, hsettle, State.encodeEnd_of_none (State.workingEncode_eq_none hk)]
  · simp only [exec, execDecodeJobCompletion, hsettle, State.decodeEnd_of_none (State.runningDecode_eq_none hk)]

/-- Settles O39. -/
theorem quietTimeout : Obligations.QuietTimeout := by
  intro s
  refine ⟨fun hrests hmet => ?_, fun hdue => ⟨?_, ?_⟩⟩
  · simp only [State.dueStep, State.dueGroup_eq_none_iff.mpr hrests, State.quietDue_iff.mpr hmet, if_true]
  · rcases State.dueStep_cases hdue with ⟨_, _, _, ⟨h, _⟩ | ⟨h, _⟩⟩ | ⟨_, h⟩ | ⟨_, h, _⟩
    · cases h
    · cases h
    · exact State.quietDue_iff.mp h
    · cases h
  · simp [exec, execQuietTimeout, hdue, State.setTimeout, State.examineEvent]

end Sys2Proof.Machine

/-! Comfort noise (R29 to R31), and the runs of discontinuous transmission (R48 to R54). -/
namespace Sys2Proof.Machine

/-! ### The generator -/

/-- R30: the generator's bit that is fed back. -/
def feedback (g : BitVec 16) : Bool := g.getLsbD 0 ^^ g.getLsbD 2 ^^ g.getLsbD 3 ^^ g.getLsbD 5

theorem genStep_toNat_feedback (g : BitVec 16) : (genStep g).toNat = 2 ^ 15 * (feedback g).toNat + g.toNat / 2 := by
  rw [genStep_toNat, feedback, Bool.xor_assoc (g.getLsbD 0 ^^ g.getLsbD 2)]
  cases (g.getLsbD 0 ^^ g.getLsbD 2) ^^ (g.getLsbD 3 ^^ g.getLsbD 5) <;> simp [Nat.add_comm]

theorem genStep_getLsbD (g : BitVec 16) (i : Nat) :
    (genStep g).getLsbD i = if i < 15 then g.getLsbD (i + 1) else (feedback g).toNat.testBit (i - 15) := by
  have hlow : g.toNat / 2 < 2 ^ 15 := by have := g.isLt; omega
  rw [BitVec.getLsbD, genStep_toNat_feedback, Nat.testBit_two_pow_mul_add _ hlow, BitVec.getLsbD, Nat.testBit_succ]

/-! ### Noise samples -/

theorem noiseSample_eq (level : Nat) (g : BitVec 16) : noiseSample level g = g.toInt * (amp level : Int) / 32768 := rfl

theorem amp_le {level : Nat} (h : level ≤ 47) : amp level ≤ 14336 :=
  calc amp level ≤ 7 * 2 ^ 11 := Nat.mul_le_mul (by omega) (Nat.pow_le_pow_right (by norm_num) (by omega))
    _ = 14336 := by norm_num

/-- R31: the loudest level puts every sample within 14336 of 0. -/
theorem noiseSample_range {level : Nat} (h : level ≤ 47) (g : BitVec 16) :
    -14336 ≤ noiseSample level g ∧ noiseSample level g ≤ 14335 := by
  have hamp : (amp level : Int) ≤ 14336 := by exact_mod_cast amp_le h
  have hlow : -32768 ≤ g.toInt := by have := g.le_toInt; omega
  have hhigh : g.toInt ≤ 32767 := by have := g.toInt_lt; omega
  have hleast : -32768 * (amp level : Int) ≤ g.toInt * amp level := Int.mul_le_mul_of_nonneg_right hlow (by positivity)
  have hmost : g.toInt * (amp level : Int) ≤ 32767 * amp level := Int.mul_le_mul_of_nonneg_right hhigh (by positivity)
  rw [noiseSample_eq]
  omega

theorem comfortNoise_eq (level n : Nat) (g : BitVec 16) :
    (comfortNoise level n g).2 = genStep^[n] g ∧
      (comfortNoise level n g).1 = (List.range n).map fun i => noiseSample level (genStep^[i + 1] g) := by
  induction n generalizing g with
  | zero => exact ⟨rfl, rfl⟩
  | succ n ih =>
    obtain ⟨hgen, hsamples⟩ := ih (genStep g)
    refine ⟨hgen, ?_⟩
    simp only [comfortNoise, hsamples, List.range_succ_eq_map, List.map_cons, List.map_map]
    rfl

/-! ### The SID level -/

theorem meanMagnitude_eq (xs : List Int) : meanMagnitude xs = (xs.map Int.natAbs).sum / 160 := by
  rw [List.sum_eq_foldl, List.foldl_map]
  rfl

/-- R29: the level is the first whose amplitude reaches twice the mean magnitude, or the last. -/
theorem sidLevel_spec (xs : List Int) :
    sidLevel xs ≤ 47 ∧ (2 * meanMagnitude xs ≤ amp (sidLevel xs) ∨ sidLevel xs = 47) ∧
      ∀ w < sidLevel xs, amp w < 2 * meanMagnitude xs := by
  unfold sidLevel
  cases hfind : (List.range 48).find? fun v => decide (2 * meanMagnitude xs ≤ amp v) with
  | none =>
    rw [List.find?_range_eq_none] at hfind
    exact ⟨le_rfl, .inr rfl, fun w hw => by simpa using hfind w (Nat.lt_succ_of_lt hw)⟩
  | some v =>
    obtain ⟨hreach, hv, hbelow⟩ := List.find?_range_eq_some.1 hfind
    exact ⟨Nat.le_of_lt_succ (List.mem_range.1 hv), .inl (by simpa using hreach), fun w hw => by simpa using hbelow w hw⟩

/-! ### Echo suppression and activity (R48 to R50) -/

/-- R48's conditions. -/
def EncodeJob.echoes (j : EncodeJob) : Prop :=
  j.uplink = true ∧ j.downlink = true ∧ (j.echoShift = 1 ∨ j.echoShift = 2 ∨ j.echoShift = 3) ∧
    j.outTalk = .talking ∧ j.inLevel + j.margin * 65536 ≤ j.outLevel

theorem echoSuppressed_iff {j : EncodeJob} : echoSuppressed j = true ↔ j.echoes := by
  have hshift : (1 ≤ j.echoShift ∧ j.echoShift ≤ 3) ↔ (j.echoShift = 1 ∨ j.echoShift = 2 ∨ j.echoShift = 3) := by omega
  simp only [echoSuppressed, Bool.and_eq_true, decide_eq_true_eq, hshift, EncodeJob.echoes, and_assoc]

theorem frameSamples_of_echo {j : EncodeJob} (h : j.echoes) :
    frameSamples j = j.codes.map fun c => expand j.law c / (2 ^ j.echoShift : Int) := by
  rw [frameSamples, if_pos (echoSuppressed_iff.mpr h), List.map_map]
  rfl

theorem frameSamples_of_no_echo {j : EncodeJob} (h : ¬ j.echoes) : frameSamples j = j.codes.map (expand j.law) :=
  if_neg (mt echoSuppressed_iff.mp h)

theorem frameActive_iff {j : EncodeJob} : frameActive j = true ↔ j.dtx = false ∨ (j.talkSeen = true ∧ ¬ j.echoes) := by
  rw [← echoSuppressed_iff, frameActive]
  cases j.dtx <;> simp

/-! ### A run of inactive frames (R52 to R54) -/

/-- The DTX state after `n` inactive frames from SPEECH: the hangover counts down, then the silence counts round. -/
def quietRun (h n : Nat) : DtxState :=
  if n = 0 then .speech
  else if h ≠ 0 ∧ n ≤ h + 1 then .hangover (h + 1 - n)
  else .silent (7 - (n - 1 - if h = 0 then 0 else h + 1) % 8)

theorem dtxStep_quietRun (h n : Nat) : (dtxStep h false (quietRun h n)).1 = quietRun h (n + 1) := by
  rcases Nat.eq_zero_or_pos n with rfl | hn
  · rcases Nat.eq_zero_or_pos h with rfl | hh
    · rfl
    · simp [quietRun, dtxStep, hh.ne']
  · by_cases hhang : h ≠ 0 ∧ n ≤ h + 1
    · obtain ⟨hh, hle⟩ := hhang
      by_cases hlast : n = h + 1
      · simp [quietRun, dtxStep, hlast, hh]
      · have hmore : n ≤ h := by omega
        simp [quietRun, dtxStep, hn.ne', hh, hle, hmore, show h + 1 - n ≠ 0 by omega]
        omega
    · have hover : ¬ (h ≠ 0 ∧ n + 1 ≤ h + 1) := by omega
      simp only [quietRun, hn.ne', hhang, hover, if_false, Nat.succ_ne_zero]
      generalize hstart : (if h = 0 then 0 else h + 1) = start
      have : start < n := by split at hstart <;> omega
      simp only [dtxStep, Bool.false_eq_true, if_false]
      split
      · simp only [DtxState.silent.injEq]; omega
      · simp only [DtxState.silent.injEq]; omega

theorem quietRun_eq (h n : Nat) : (fun d => (dtxStep h false d).1)^[n] .speech = quietRun h n := by
  induction n with
  | zero => rfl
  | succ n ih => rw [Function.iterate_succ_apply', ih, dtxStep_quietRun]

theorem dtxStep_quietRun_kind (h n : Nat) :
    (dtxStep h false (quietRun h n)).2 =
      if n ≤ h ∧ h ≠ 0 then .speech false else if (n - (if h = 0 then 0 else h + 1)) % 8 = 0 then .sid else .nodata := by
  rcases Nat.eq_zero_or_pos n with rfl | hn
  · rcases Nat.eq_zero_or_pos h with rfl | hh
    · rfl
    · simp [quietRun, dtxStep, hh.ne']
  · by_cases hhang : h ≠ 0 ∧ n ≤ h + 1
    · obtain ⟨hh, hle⟩ := hhang
      by_cases hlast : n = h + 1
      · simp [quietRun, dtxStep, hlast, hh]
      · have hmore : n ≤ h := by omega
        simp [quietRun, dtxStep, hn.ne', hh, hle, hmore, show h + 1 - n ≠ 0 by omega]
    · have hover : ¬ (n ≤ h ∧ h ≠ 0) := by omega
      simp only [quietRun, hn.ne', hhang, hover, if_false]
      generalize hstart : (if h = 0 then 0 else h + 1) = start
      have : start < n := by split at hstart <;> omega
      have hround : 7 - (n - 1 - start) % 8 = 0 ↔ (n - start) % 8 = 0 := by omega
      simp only [dtxStep, Bool.false_eq_true, if_false, apply_ite Prod.snd, hround]

/-- R54: the frame that ends a silence, and no other, is an onset. -/
theorem dtxStep_active_quietRun (h n : Nat) :
    dtxStep h true (quietRun h n) = (.speech, .speech (decide (if h = 0 then 1 ≤ n else h + 2 ≤ n))) := by
  rcases Nat.eq_zero_or_pos n with rfl | hn
  · simp [quietRun, dtxStep]
  · by_cases hhang : h ≠ 0 ∧ n ≤ h + 1
    · simp [quietRun, dtxStep, hn.ne', hhang, show ¬ h + 2 ≤ n by omega]
    · have hsilent : if h = 0 then 1 ≤ n else h + 2 ≤ n := by split <;> omega
      simp [quietRun, dtxStep, hn.ne', hhang, hsilent]

/-- Settles O48. -/
theorem frameKinds : Obligations.FrameKinds := by
  refine ⟨fun j => ⟨echoSuppressed_iff, frameSamples_of_echo, frameSamples_of_no_echo, frameActive_iff⟩, fun h n _ => ?_⟩
  intro silentRun
  have hrun : silentRun = quietRun h n := quietRun_eq h n
  rw [hrun, dtxStep_active_quietRun]
  exact ⟨dtxStep_quietRun_kind h n, rfl, rfl⟩

end Sys2Proof.Machine

/-! The statement of comfort noise; its name is the model's own inside the model's namespace. -/
namespace Sys2Proof
open Machine

/-- Settles O49. -/
theorem comfortNoise : Obligations.ComfortNoise := by
  refine ⟨fun g => genStep_ne_zero, fun g i hi => ?_, fun g => ?_, fun k hk => seed_ne_zero hk, fun _ => rfl,
    comfortNoise_eq, fun level g h => noiseSample_range h g, fun xs _ => ?_⟩
  · rw [genStep_getLsbD, if_pos hi]
  · rw [genStep_getLsbD, if_neg (lt_irrefl 15), Nat.sub_self, feedback]
    cases g.getLsbD 0 ^^ g.getLsbD 2 ^^ g.getLsbD 3 ^^ g.getLsbD 5 <;> rfl
  · rw [← meanMagnitude_eq]
    exact sidLevel_spec xs

end Sys2Proof

/-! Silence codes, attenuation and the magnitude index (R6, R9, R11 to R13): a code's index counts the intervals below its own, so
that the order of indices is that of the expanded magnitudes. -/
namespace Sys2Proof.Machine

/-! ### Magnitudes by interval -/

theorem reconstruction_lt (law : Law) {e m e' m' : Nat} (hm : m < 16) (h : e < e' ∨ e = e' ∧ m < m') :
    reconstruction law e m < reconstruction law e' m' :=
  calc reconstruction law e m ≤ intervalHigh law e m := (reconstruction_inInterval law e m).2
    _ < intervalLow law e' m' := intervalHigh_lt_intervalLow law hm h
    _ ≤ reconstruction law e' m' := (reconstruction_inInterval law e' m').1

theorem reconstruction_le_top (law : Law) {e m : Nat} (he : e < 8) (hm : m < 16) : reconstruction law e m ≤ 32256 := by
  have htop : reconstruction law 7 15 ≤ 32256 := by cases law <;> decide
  by_cases hlast : e = 7 ∧ m = 15
  · obtain ⟨rfl, rfl⟩ := hlast; exact htop
  · exact (reconstruction_lt law hm (by omega)).le.trans htop

theorem natAbs_expand_fieldsCode {law : Law} {e m : Nat} (he : e < 8) (hm : m < 16) (negative : Bool) :
    (expand law (fieldsCode law negative e m)).natAbs = reconstruction law e m := by
  rw [expand_fieldsCode he hm]
  split <;> omega

theorem natAbs_expand_le (law : Law) (c : Byte) : (expand law c).natAbs ≤ 32256 := by
  obtain ⟨negative, e, m, he, hm, rfl⟩ := exists_fieldsCode law c
  rw [natAbs_expand_fieldsCode he hm]
  exact reconstruction_le_top law he hm

theorem compress_of_interval {law : Law} {x : Int} {e m : Nat} (hm : m < 16) (h : InInterval law e m (adjusted law x)) :
    compress law x = fieldsCode law (decide (x < 0)) e m := by
  obtain ⟨e', m', _, hm', hcode, h'⟩ := compress_spec law x
  obtain ⟨rfl, rfl⟩ := h.unique hm hm' h'
  exact hcode

/-- R6, R9: the values of the lowest interval, by their sign. -/
theorem compress_near_zero {law : Law} {x : Int} (h : x.natAbs ≤ intervalHigh law 0 0) :
    compress law x = fieldsCode law (decide (x < 0)) 0 0 := by
  have hlow : intervalLow law 0 0 = 0 := by cases law <;> rfl
  exact compress_of_interval (by decide) ⟨hlow.trans_le (Nat.zero_le _), (min_le_left _ _).trans h⟩

/-! ### Attenuation (R12, R13) -/

theorem attenuate_zero (law : Law) (c : Byte) : attenuate law 0 c = c := rfl

theorem attenuate_pos {a : Nat} (h : 1 ≤ a) (law : Law) (c : Byte) :
    attenuate law a c = compress law (expand law c / (2 ^ a : Int)) := if_neg (by omega)

theorem shifted_range {x : Int} {a : Nat} (hx : x.natAbs ≤ 32256) (ha : 1 ≤ a) (ha' : a ≤ 3) :
    -4032 * 2 ^ (3 - a) ≤ x / (2 ^ a : Int) ∧ x / (2 ^ a : Int) ≤ 4032 * 2 ^ (3 - a) := by
  interval_cases a <;> norm_num <;> omega

/-! ### The magnitude index (R11) -/

theorem magnitudeIndex_eq_mod (law : Law) (c : Byte) : magnitudeIndex law c = (invert law c).toNat % 128 := by
  have : plainSegment (invert law c) = (invert law c).toNat / 16 % 8 := rfl
  have : plainStep (invert law c) = (invert law c).toNat % 16 := rfl
  simp only [magnitudeIndex]
  omega

theorem magnitudeIndex_fieldsCode {law : Law} {e m : Nat} (he : e < 8) (hm : m < 16) (negative : Bool) :
    magnitudeIndex law (fieldsCode law negative e m) = 16 * e + m := by
  simp only [magnitudeIndex, fieldsCode, invert_invert, plainSegment_plainByte he hm, plainStep_plainByte he hm]

theorem invert_eq_xor (law : Law) (c : Byte) : invert law c = match law with | .seg13 => c ^^^ 0x55 | .seg15 => c ^^^ 0xFF := by
  cases law with
  | seg13 => rfl
  | seg15 => exact (BitVec.xor_allOnes (x := c)).symm

theorem invert_xor_sign (law : Law) (c : Byte) : invert law (c ^^^ 0x80) = invert law c ^^^ 0x80 := by
  rw [invert_eq_xor, invert_eq_xor]
  cases law with
  | seg13 => simp only [BitVec.xor_assoc]; rfl
  | seg15 => simp only [BitVec.xor_assoc]; rfl

/-- R11: the negative counterpart of a code has its magnitude index. -/
theorem magnitudeIndex_xor_sign (law : Law) (c : Byte) : magnitudeIndex law (c ^^^ 0x80) = magnitudeIndex law c := by
  rw [magnitudeIndex_eq_mod, magnitudeIndex_eq_mod, invert_xor_sign, BitVec.toNat_xor]
  exact (Nat.xor_mod_two_pow (n := 7)).trans (Nat.xor_zero _)

theorem natAbs_expand_order (law : Law) (c d : Byte) :
    (magnitudeIndex law c < magnitudeIndex law d → (expand law c).natAbs < (expand law d).natAbs) ∧
      (magnitudeIndex law c = magnitudeIndex law d → (expand law c).natAbs = (expand law d).natAbs) := by
  obtain ⟨negative, e, m, he, hm, rfl⟩ := exists_fieldsCode law c
  obtain ⟨negative', e', m', he', hm', rfl⟩ := exists_fieldsCode law d
  rw [magnitudeIndex_fieldsCode he hm, magnitudeIndex_fieldsCode he' hm', natAbs_expand_fieldsCode he hm,
    natAbs_expand_fieldsCode he' hm']
  refine ⟨fun h => reconstruction_lt law hm (by omega), fun h => ?_⟩
  obtain ⟨rfl, rfl⟩ : e = e' ∧ m = m' := by omega
  rfl

/-- Settles O46. -/
theorem attenuationOfCodes : Obligations.AttenuationOfCodes := by
  refine ⟨by decide, fun x => ⟨?_, ?_, ?_, ?_⟩, fun law c => ⟨attenuate_zero law c, fun a ha ha' => ?_⟩, fun law c d => ?_⟩
  · intro h h'
    rw [compress_near_zero (by rw [intervalHigh_zero]; omega), decide_eq_false (by omega)]; rfl
  · intro h h'
    rw [compress_near_zero (by rw [intervalHigh_zero]; omega), decide_eq_true (by omega)]; rfl
  · intro h h'
    rw [compress_near_zero (by rw [show intervalHigh .seg15 0 0 = 3 from rfl]; omega), decide_eq_false (by omega)]; rfl
  · intro h h'
    rw [compress_near_zero (by rw [show intervalHigh .seg15 0 0 = 3 from rfl]; omega), decide_eq_true (by omega)]; rfl
  · obtain ⟨hlow, hhigh⟩ := shifted_range (natAbs_expand_le law c) ha ha'
    refine ⟨attenuate_pos ha law c, hlow, hhigh, ?_⟩
    interval_cases a
    · cases law <;> decide
    · cases law <;> decide
    · cases law <;> decide
  · obtain ⟨hlt, heq⟩ := natAbs_expand_order law c d
    intro plain
    have hplain : plain = (invert law c).toNat := congrArg BitVec.toNat (invert_eq_xor law c).symm
    have hindex := magnitudeIndex_eq_mod law c
    refine ⟨by omega, by omega, magnitudeIndex_le law c, magnitudeIndex_xor_sign law c, hlt, heq⟩

end Sys2Proof.Machine

/-! The body of a speech frame (R17, 12.3) as a bit stream, its codes and step indices at their places, and the decoder's outputs
as the encoder's reconstructions (R26, R27). -/
namespace Sys2Proof.Machine

/-! ### Bits of a stream -/

theorem byteBits_getD (b : Byte) {n : Nat} (h : n < 8) : (byteBits b).getD n false = b.getLsbD (7 - n) := by
  interval_cases n <;> rfl

@[simp] theorem length_byteBits (b : Byte) : (byteBits b).length = 8 := rfl

theorem length_byteStream (bytes : List Byte) : (bytes.flatMap byteBits).length = 8 * bytes.length := by
  simp [List.length_flatMap, Nat.mul_comm]

/-- Bit `n` of the stream is bit 7 − n mod 8 of byte n div 8. -/
theorem byteStream_getD (bytes : List Byte) (n : Nat) :
    (bytes.flatMap byteBits).getD n false = (bytes.getD (n / 8) 0).getLsbD (7 - n % 8) := by
  induction bytes generalizing n with
  | nil => simp
  | cons b bytes ih =>
    rw [List.flatMap_cons]
    rcases Nat.lt_or_ge n 8 with h | h
    · rw [List.getD_append _ _ _ _ (by simpa using h), byteBits_getD b h, Nat.div_eq_of_lt h, Nat.mod_eq_of_lt h]
      rfl
    · obtain ⟨m, rfl⟩ := Nat.exists_eq_add_of_le h
      rw [List.getD_append_right _ _ _ _ (by simp), length_byteBits, Nat.add_sub_cancel_left, ih, Nat.add_div_left _ (by decide),
        List.getD_cons_succ, Nat.add_mod_left]

theorem groupBits_eq (b n : Nat) (bits : List Bool) :
    groupBits b n bits = (List.range n).map fun i => (bits.drop (i * b)).take b := by
  induction n generalizing bits with
  | zero => rfl
  | succ n ih =>
    rw [groupBits, ih, List.range_succ_eq_map, List.map_cons, List.map_map, Nat.zero_mul, List.drop_zero]
    congr 1
    refine List.map_congr_left fun i _ => ?_
    rw [Function.comp, List.drop_drop, Nat.succ_mul, Nat.add_comm]

/-- A run of `b` bits of a stream, bit by bit. -/
theorem take_drop_eq_map {bits : List Bool} {start b : Nat} (h : start + b ≤ bits.length) :
    (bits.drop start).take b = (List.range b).map fun j => bits.getD (start + j) false := by
  refine List.ext_getElem (by simp; omega) fun j hj hj' => ?_
  have hb : j < b := by simpa using hj'
  have hin : start + j < bits.length := by omega
  simp [hin]

/-! ### Numbers of bits -/

theorem bitsNat_lt (bits : List Bool) : bitsNat bits < 2 ^ bits.length := by
  induction bits with
  | nil => decide
  | cons b bits ih =>
    simp only [bitsNat, List.length_cons, Nat.pow_succ]
    split <;> omega

theorem foldl_bits (bits : List Bool) (v : Nat) :
    bits.foldl (fun v b => 2 * v + b.toNat) v = v * 2 ^ bits.length + bitsNat bits := by
  induction bits generalizing v with
  | nil => simp [bitsNat]
  | cons b bits ih =>
    rw [List.foldl_cons, ih, bitsNat, List.length_cons, Nat.pow_succ]
    cases b <;> simp <;> ring

/-- Two's complement of `b` bits. -/
theorem bitsInt_eq {bits : List Bool} {b : Nat} (h : bits.length = b) (hb : 0 < b) :
    bitsInt bits = if bitsNat bits < 2 ^ (b - 1) then (bitsNat bits : Int) else bitsNat bits - 2 ^ b := by
  subst h
  cases bits with
  | nil => exact absurd hb (lt_irrefl 0)
  | cons b bits =>
    have hlt := bitsNat_lt bits
    simp only [bitsInt, bitsNat, List.length_cons, Nat.add_sub_cancel]
    cases b with
    | false => simp [hlt]
    | true =>
      rw [if_pos rfl, if_pos rfl, if_neg (by omega)]
      push_cast
      ring

/-! ### The fields of a body -/

theorem stepField_eq (body : List Byte) {j : Nat} (h : j < 4) : stepField body j = (bodySteps body).getD j 0 := by
  interval_cases j <;> rfl

theorem stepField_le (body : List Byte) (j : Nat) : stepField body j ≤ 15 := by
  have := (body.getD (j / 2) 0).isLt
  simp only [stepField]
  split <;> omega

theorem length_bodyCodes (type : FrameType) (body : List Byte) : (bodyCodes type body).length = 160 := by
  rw [bodyCodes, List.length_map, groupBits_eq, List.length_map, List.length_range]

/-- R17: residual code `i` stands at bits i·b to i·b + b − 1 of the stream, in two's complement. -/
theorem bodyCodes_getD {type : FrameType} {body : List Byte} (hbits : 0 < type.bits)
    (hbody : body.length = 2 + 20 * type.bits) {i : Nat} (hi : i < 160) :
    (bodyCodes type body).getD i 0 = codeField type.bits body i := by
  generalize hb : type.bits = b at hbits hbody
  let bit (n : Nat) : Bool := (body.getD (2 + n / 8) 0).getLsbD (7 - n % 8)
  have hstream (n : Nat) : ((body.drop 2).flatMap byteBits).getD n false = bit n := by
    rw [byteStream_getD]; simp [bit, List.getD_eq_getElem?_getD]
  have hgroup : (bodyCodes type body).getD i 0 = bitsInt ((List.range b).map fun j => bit (i * b + j)) := by
    have hin : i * b + b ≤ ((body.drop 2).flatMap byteBits).length := by
      rw [length_byteStream, List.length_drop, hbody, ← Nat.succ_mul]
      calc (i + 1) * b ≤ 160 * b := Nat.mul_le_mul_right _ hi
        _ = 8 * (2 + 20 * b - 2) := by omega
    have hlt : i < (bodyCodes type body).length := by rwa [length_bodyCodes]
    rw [List.getD_eq_getElem _ _ hlt]
    simp only [bodyCodes, groupBits_eq, List.getElem_map, List.getElem_range, hb, take_drop_eq_map hin, hstream]
  have hcount : ((List.range b).map fun j => bit (i * b + j)).length = b := by simp
  have hfold := foldl_bits ((List.range b).map fun j => bit (i * b + j)) 0
  rw [List.foldl_map, Nat.zero_mul, Nat.zero_add] at hfold
  rw [hgroup, bitsInt_eq hcount hbits, ← hfold]
  simp only [codeField, bit]

/-! ### What the encoder packs is what the decoder reads -/

theorem byteBits_bitsNat (b7 b6 b5 b4 b3 b2 b1 b0 : Bool) :
    byteBits (BitVec.ofNat 8 (bitsNat [b7, b6, b5, b4, b3, b2, b1, b0])) = [b7, b6, b5, b4, b3, b2, b1, b0] := by
  revert b7 b6 b5 b4 b3 b2 b1 b0
  decide

theorem byteStream_packBytes (n : Nat) (bits : List Bool) (h : bits.length = 8 * n) :
    (packBytes bits).flatMap byteBits = bits := by
  induction n generalizing bits with
  | zero => rw [List.length_eq_zero_iff.mp h]; rfl
  | succ n ih =>
    match bits, h with
    | b7 :: b6 :: b5 :: b4 :: b3 :: b2 :: b1 :: b0 :: rest, h =>
      simp only [List.length_cons] at h
      rw [packBytes, List.flatMap_cons, byteBits_bitsNat, ih rest (by omega)]
      rfl
    | [], h | [_], h | [_, _], h | [_, _, _], h | [_, _, _, _], h | [_, _, _, _, _], h | [_, _, _, _, _, _], h
    | [_, _, _, _, _, _, _], h => simp only [List.length_cons, List.length_nil] at h; omega

theorem groupBits_flatMap {b : Nat} (f : Int → List Bool) (hf : ∀ k, (f k).length = b) (codes : List Int) :
    groupBits b codes.length (codes.flatMap f) = codes.map f := by
  induction codes with
  | nil => rfl
  | cons k codes ih =>
    rw [List.flatMap_cons, List.length_cons, groupBits, ← hf k, List.take_left, List.drop_left, hf k, ih, List.map_cons]

/-- R17: `b` bits hold every residual code of a mode. -/
theorem bitsInt_intBits (mode : Mode) {k : Int} (hlow : -(mode.levels : Int) ≤ k) (hhigh : k ≤ mode.levels - 1) :
    bitsInt (intBits mode.type.bits k) = k := by
  cases mode with
  | a2 => simp only [Mode.levels] at hlow hhigh; norm_num at hlow hhigh; interval_cases k <;> rfl
  | a3 => simp only [Mode.levels] at hlow hhigh; norm_num at hlow hhigh; interval_cases k <;> rfl
  | a4 => simp only [Mode.levels] at hlow hhigh; norm_num at hlow hhigh; interval_cases k <;> rfl

theorem length_codeStream {codes : List Int} (h : codes.length = 160) (b : Nat) :
    (codes.flatMap (intBits b)).length = 8 * (20 * b) := by
  simp only [List.length_flatMap, length_intBits, List.map_const', List.sum_replicate, h, smul_eq_mul]
  omega

theorem bodyCodes_speechBody {mode : Mode} {c : SpeechCoding} (hlength : c.codes.length = 160)
    (hrange : ∀ k ∈ c.codes, -(mode.levels : Int) ≤ k ∧ k ≤ mode.levels - 1) :
    bodyCodes mode.type (speechBody mode c) = c.codes := by
  have hstream : (speechBody mode c).drop 2 = packBytes (c.codes.flatMap (intBits mode.type.bits)) := rfl
  have hgroups := groupBits_flatMap (intBits mode.type.bits) (length_intBits _) c.codes
  rw [hlength] at hgroups
  rw [bodyCodes, hstream, byteStream_packBytes _ _ (length_codeStream hlength _), hgroups, List.map_map]
  calc c.codes.map (bitsInt ∘ intBits mode.type.bits) = c.codes.map id :=
        List.map_congr_left fun k hk => bitsInt_intBits mode (hrange k hk).1 (hrange k hk).2
    _ = c.codes := List.map_id _

/-- 12.3: two step indices of at most 15 to a byte. -/
theorem bodySteps_speechBody {mode : Mode} {c : SpeechCoding} (hlength : c.steps.length = 4)
    (hrange : ∀ j < 4, c.steps.getD j 0 ≤ 15) : bodySteps (speechBody mode c) = c.steps := by
  obtain ⟨a, b, d, e, hsteps⟩ : ∃ a b d e, c.steps = [a, b, d, e] := by
    match h : c.steps, hlength with
    | [a, b, d, e], _ => exact ⟨a, b, d, e, rfl⟩
  rw [hsteps] at hrange
  have ha : a ≤ 15 := hrange 0 (by decide)
  have hb : b ≤ 15 := hrange 1 (by decide)
  have hd : d ≤ 15 := hrange 2 (by decide)
  have he : e ≤ 15 := hrange 3 (by decide)
  simp only [bodySteps, speechBody, hsteps, List.getD_cons_zero, List.getD_cons_succ, BitVec.toNat_ofNat, List.cons.injEq,
    and_true]
  omega

/-! ### Decoding (R27) -/

theorem length_decodeBlock (delta : Nat) (recon : Int) (ks : List Int) : (decodeBlock delta recon ks).length = ks.length := by
  induction ks generalizing recon with
  | nil => rfl
  | cons k ks ih => exact congrArg Nat.succ (ih _)

theorem decodeBlock_getD {ks : List Int} {i : Nat} (hi : i < ks.length) (delta : Nat) (recon : Int) :
    (decodeBlock delta recon ks).getD i 0 =
      reconstruct delta ((recon :: decodeBlock delta recon ks).getD i 0) (ks.getD i 0) := by
  induction ks generalizing recon i with
  | nil => exact absurd hi (Nat.not_lt_zero i)
  | cons k ks ih =>
    cases i with
    | zero => rfl
    | succ i => exact ih (Nat.lt_of_succ_lt_succ hi) _

theorem length_decodeBlocks {steps : List Nat} {ks : List Int} (h : ks.length = 40 * steps.length) (recon : Int) :
    (decodeBlocks steps recon ks).length = ks.length := by
  induction steps generalizing ks recon with
  | nil => rw [List.length_eq_zero_iff.mp h]; rfl
  | cons q steps ih =>
    rw [List.length_cons] at h
    rw [decodeBlocks, List.length_append, length_decodeBlock, ih (by rw [List.length_drop]; omega), List.length_take,
      List.length_drop]
    omega

/-- R27: each output is the prediction from the output before it plus the code times the step of its sub-block. -/
theorem decodeBlocks_getD {steps : List Nat} {ks : List Int} (h : ks.length = 40 * steps.length) {i : Nat}
    (hi : i < ks.length) (recon : Int) :
    (decodeBlocks steps recon ks).getD i 0 =
      reconstruct (stepSize (steps.getD (i / 40) 0)) ((recon :: decodeBlocks steps recon ks).getD i 0) (ks.getD i 0) := by
  induction steps generalizing ks recon i with
  | nil => rw [List.length_eq_zero_iff.mp h] at hi; exact absurd hi (Nat.not_lt_zero i)
  | cons q steps ih =>
    rw [List.length_cons] at h
    have hblock : (ks.take 40).length = 40 := by rw [List.length_take]; omega
    simp only [decodeBlocks]
    generalize hout : decodeBlock (stepSize q) recon (ks.take 40) = out
    have hlength : out.length = 40 := by rw [← hout, length_decodeBlock, hblock]
    rcases Nat.lt_or_ge i 40 with hfirst | hlater
    · have hstep := decodeBlock_getD (hblock.symm ▸ hfirst) (stepSize q) recon
      have hk : (ks.take 40).getD i 0 = ks.getD i 0 := by simp [hfirst]
      rw [hout, hk] at hstep
      rw [Nat.div_eq_of_lt hfirst, List.getD_cons_zero, ← List.cons_append,
        List.getD_append (recon :: out) _ _ _ (by rw [List.length_cons]; omega), List.getD_append out _ _ _ (by omega)]
      exact hstep
    · obtain ⟨j, rfl⟩ := Nat.exists_eq_add_of_le hlater
      have hstep := ih (ks := ks.drop 40) (by rw [List.length_drop]; omega) (i := j) (by rw [List.length_drop]; omega) (out.getLastD recon)
      simp only [getLastD_cons_eq_drop, getD_drop, hlength] at hstep
      rw [Nat.add_div_left _ (by decide), List.getD_cons_succ, List.getD_append_right _ _ _ _ (by omega), hlength,
        Nat.add_sub_cancel_left, hstep]

theorem length_decodeSpeech (type : FrameType) (recon : Int) (body : List Byte) :
    (decodeSpeech type recon body).length = 160 :=
  (length_decodeBlocks (length_bodyCodes type body) recon).trans (length_bodyCodes type body)

theorem decodeBlock_quantiseAll (l delta : Nat) (recon : Int) (xs : List Int) :
    decodeBlock delta recon ((quantiseAll l delta recon xs).map Prod.fst) = (quantiseAll l delta recon xs).map Prod.snd := by
  induction xs generalizing recon with
  | nil => rfl
  | cons x xs ih => exact congrArg (List.cons _) (ih _)

/-- R26: the decoder runs the encoder's own reconstruction. -/
theorem decodeBlocks_encodeBlocks {n : Nat} {xs : List Int} (hxs : 40 * n ≤ xs.length) (l : Nat) (recon prev : Int) :
    let c := encodeBlocks l n recon prev xs
    decodeBlocks c.steps recon c.codes = c.recons := by
  induction n generalizing recon prev xs with
  | zero => rfl
  | succ n ih =>
    have hblock : (xs.take 40).length = 40 := by rw [List.length_take]; omega
    simp only [encodeBlocks, decodeBlocks]
    generalize stepIndex l prev (xs.take 40) = q
    have hmirror := decodeBlock_quantiseAll l (stepSize q) recon (xs.take 40)
    have hlength : ((quantiseAll l (stepSize q) recon (xs.take 40)).map Prod.fst).length = 40 := by
      rw [List.length_map, length_quantiseAll, hblock]
    rw [List.take_left' hlength, List.drop_left' hlength, hmirror, ih (by rw [List.length_drop]; omega)]

theorem encodeSpeech_codes_range {xs : List Int} (h : xs.length = 160) (mode : Mode) (recon xPrev : Int) :
    ∀ k ∈ (encodeSpeech mode recon xPrev xs).codes, -(mode.levels : Int) ≤ k ∧ k ≤ mode.levels - 1 := by
  intro k hk
  have hlevels : 0 < mode.levels := by cases mode <;> decide
  obtain ⟨i, hi, rfl⟩ := List.getElem_of_mem hk
  have hcodes := (length_encodeSpeech h mode recon xPrev).1
  obtain ⟨hcode, -⟩ := encodeBlocks_sampleCoded (l := mode.levels) (n := 4) (xs := xs) (i := i) (by omega) (by omega) recon xPrev
  have hq := encodeBlocks_steps_getD_le (l := mode.levels) (n := 4) (xs := xs) (b := i / 40) (by omega) (by omega) recon xPrev
  obtain ⟨hle, hge, -, -⟩ := quantise_spec hlevels (stepSize_pos hq)
    ((recon :: (encodeBlocks mode.levels 4 recon xPrev xs).recons).getD i 0) (xs.getD i 0)
  rw [← hcode] at hle hge
  rw [← List.getD_eq_getElem _ 0 hi]
  exact ⟨hge, hle⟩

theorem bodySteps_encodeSpeech {xs : List Int} (h : xs.length = 160) (mode : Mode) (recon xPrev : Int) :
    bodySteps (speechBody mode (encodeSpeech mode recon xPrev xs)) = (encodeSpeech mode recon xPrev xs).steps :=
  bodySteps_speechBody (length_encodeBlocks_steps ..) fun _ hj => encodeBlocks_steps_getD_le (by omega) hj ..

theorem bodyCodes_encodeSpeech {xs : List Int} (h : xs.length = 160) (mode : Mode) (recon xPrev : Int) :
    bodyCodes mode.type (speechBody mode (encodeSpeech mode recon xPrev xs)) = (encodeSpeech mode recon xPrev xs).codes :=
  bodyCodes_speechBody (length_encodeSpeech h mode recon xPrev).1 (encodeSpeech_codes_range h mode recon xPrev)

theorem decodeSpeech_speechBody {xs : List Int} (h : xs.length = 160) (mode : Mode) (recon xPrev : Int) :
    let c := encodeSpeech mode recon xPrev xs
    decodeSpeech mode.type recon (speechBody mode c) = c.recons := by
  intro c
  rw [decodeSpeech, bodySteps_encodeSpeech h, bodyCodes_encodeSpeech h]
  exact decodeBlocks_encodeBlocks (n := 4) (by omega) ..

/-- Settles O41. -/
theorem decoderMirrorsEncoder : Obligations.DecoderMirrorsEncoder := by
  refine ⟨fun mode recon xPrev xs hxs => ?_, fun type recon body => ?_⟩
  · intro c body b type
    obtain ⟨hcodes, hrecons⟩ := length_encodeSpeech hxs mode recon xPrev
    have htype : type = mode.type := by cases mode <;> rfl
    have hb : b = mode.type.bits := by cases mode <;> rfl
    have hbits : 0 < mode.type.bits := by cases mode <;> decide
    have hbody : body.length = 2 + 20 * mode.type.bits := length_speechBody mode hcodes
    have hsteps : bodySteps body = c.steps := bodySteps_encodeSpeech hxs mode recon xPrev
    have hread : bodyCodes mode.type body = c.codes := bodyCodes_encodeSpeech hxs mode recon xPrev
    rw [htype, hb]
    refine ⟨hbody, hrecons, decodeSpeech_speechBody hxs mode recon xPrev, fun j hj => ?_, fun i hi => ?_⟩
    · rw [stepField_eq _ hj, hsteps]
    · rw [← bodyCodes_getD hbits hbody hi, hread]
  · intro b out htype hbody
    have hb : b = type.bits := by cases type <;> rfl
    have hbits : 0 < type.bits := by
      cases type with
      | sid => exact absurd rfl htype
      | a2 | a3 | a4 => decide
    rw [hb] at hbody ⊢
    refine ⟨length_decodeSpeech type recon body, fun i hi => ?_⟩
    intro before delta
    have hlt : i < (bodyCodes type body).length := by rwa [length_bodyCodes]
    have hstep : out.getD i 0 = reconstruct _ _ _ := decodeBlocks_getD (length_bodyCodes type body) hlt recon
    have hbefore : before = (recon :: out).getD i 0 := previous_eq_getD ..
    have hdelta : delta = (stepSize (stepField body (i / 40)) : Int) := (stepSize_cast_eq_getD (stepField_le _ _)).symm
    rw [hstep, ← stepField_eq body (by omega), bodyCodes_getD hbits hbody hi, reconstruct_eq, hbefore, hdelta]
    rfl

/-! ### A frame read back (R15, R180) -/

theorem frameByte1_toNat (type : FrameType) {request : Nat} (h : request ≤ 3) (onset : Bool) :
    (frameByte1 type request onset).toNat = type.code + 16 * request + if onset then 64 else 0 := by
  have := type.code_bounds
  rw [frameByte1, BitVec.toNat_ofNat, Nat.mod_eq_of_lt]
  split <;> omega

theorem byte1Type_frameByte1 (type : FrameType) {request : Nat} (h : request ≤ 3) (onset : Bool) :
    byte1Type (frameByte1 type request onset) = type.code := by
  have := type.code_bounds
  rw [byte1Type, frameByte1_toNat type h]
  split <;> omega

theorem byte1Request_frameByte1 (type : FrameType) {request : Nat} (h : request ≤ 3) (onset : Bool) :
    byte1Request (frameByte1 type request onset) = request := by
  have := type.code_bounds
  rw [byte1Request, frameByte1_toNat type h]
  split <;> omega

theorem byte1Onset_frameByte1 (type : FrameType) {request : Nat} (h : request ≤ 3) (onset : Bool) :
    byte1Onset (frameByte1 type request onset) = onset := by
  have := type.code_bounds
  rw [byte1Onset, BitVec.getLsbD, frameByte1_toNat type h, Nat.testBit_eq_decide_div_mod_eq]
  cases onset with
  | false => exact decide_eq_false (by norm_num; omega)
  | true => exact decide_eq_true (by norm_num; omega)

theorem readEntry_frame {f : Frame} (h : f.request ≤ 3) :
    readEntry f.type f.bytes =
      { seq := f.seq, type := f.type, request := f.request, onset := f.onset, body := f.body, blocks := f.type.blocks } := by
  simp only [readEntry, Frame.bytes, List.getD_cons_zero, List.getD_cons_succ, byte1Request_frameByte1 _ h,
    byte1Onset_frameByte1 _ h, List.drop_succ_cons, List.drop_zero]

theorem frameForm_frame {f : Frame} (h : f.request ≤ 3) (hbytes : f.bytes.length = f.type.bytes) :
    frameForm f.bytes.length f.bytes = some f.type := by
  have hcode : byte1Type (f.bytes.getD 1 0) = f.type.code := byte1Type_frameByte1 f.type h f.onset
  have hbounds : 3 ≤ f.type.bytes ∧ f.type.bytes ≤ 84 := by cases f.type <;> decide
  rw [frameForm, if_pos (by rwa [hbytes]), hcode, FrameType.ofCode_eq_some_iff.mpr rfl]
  exact if_pos hbytes

/-- R55: the one kind of frame that carries the onset flag is a speech frame coded from memories of 0. -/
theorem encodeWork_onset {j : EncodeJob} {f : Frame} (hf : (encodeWork j).frame = some f) (honset : f.onset = true) :
    f = { seq := j.seq, type := j.mode.type, request := j.request, onset := true
          body := speechBody j.mode (encodeSpeech j.mode 0 0 (frameSamples j)) } ∧
      (encodeWork j).enc.recon = (encodeSpeech j.mode 0 0 (frameSamples j)).recons.getLastD 0 := by
  obtain ⟨dtx, onset, -, hwork⟩ | ⟨dtx, -, hwork⟩ | ⟨dtx, -, hwork⟩ := encodeWork_cases j
  · rw [hwork] at hf ⊢
    cases hf
    cases honset
    exact ⟨rfl, rfl⟩
  · rw [hwork] at hf
    cases hf
    cases honset
  · rw [hwork] at hf
    cases hf

theorem getLastD_of_ne_nil {α : Type} {l : List α} (h : l ≠ []) (a b : α) : l.getLastD a = l.getLastD b := by
  rw [List.getLastD_eq_getLast?, List.getLastD_eq_getLast?, List.getLast?_eq_some_getLast h]
  rfl

theorem decodeWork_speech {j : DecodeJob} {e : PlayEntry} (htaken : j.taken = some e) (htype : e.type ≠ .sid) :
    decodeWork j = decodeSpeechFrame j.law j.dec e := by
  simp only [decodeWork, htaken, if_neg htype]

/-- Settles O42. -/
theorem onsetFrameDecodes : Obligations.OnsetFrameDecodes := by
  intro j f d law p ctx hcodes hrequest hf honset
  have hbytes := encodeWork_frame_bytes hcodes hf
  obtain ⟨rfl, hrecon⟩ := encodeWork_onset hf honset
  refine ⟨hbytes, frameForm_frame hrequest hbytes, ?_⟩
  intro e
  have he : e = _ := readEntry_frame hrequest
  rw [he]
  refine ⟨rfl, rfl, rfl, rfl, ?_⟩
  have hxs : (frameSamples j).length = 160 := (length_frameSamples j).trans hcodes
  intro out r
  have hmirror : decodeSpeech j.mode.type 0 (speechBody j.mode (encodeSpeech j.mode 0 0 (frameSamples j))) = out :=
    decodeSpeech_speechBody hxs j.mode 0 0
  have htype : j.mode.type ≠ .sid := by cases j.mode <;> decide
  have hr : r = decodeSpeechFrame law d _ := decodeWork_speech rfl htype
  have hout : out ≠ [] := List.ne_nil_of_length_pos (by rw [(length_encodeSpeech hxs j.mode 0 0).2]; decide)
  rw [hr, hrecon]
  simp only [decodeSpeechFrame, if_true, hmirror, true_and, and_true]
  exact ⟨getLastD_of_ne_nil hout _ _, getLastD_of_ne_nil hout _ _⟩

end Sys2Proof.Machine

/-! Frame memory and the posted write queue over it (R150, R153 to R155): a byte that a write enables is in memory and in no entry,
every other byte of memory and of every read keeps. -/
namespace Sys2Proof.Machine

/-! ### Cells -/

theorem cellAt_append (xs ys : List (Nat × Byte)) (a : Nat) : cellAt (xs ++ ys) a = (cellAt xs a).or (cellAt ys a) := by
  rw [cellAt, List.find?_append, cellAt, cellAt]
  cases xs.find? fun c => decide (c.1 = a) <;> rfl

theorem cellAt_cons (c : Nat × Byte) (cells : List (Nat × Byte)) (a : Nat) :
    cellAt (c :: cells) a = if c.1 = a then some c.2 else cellAt cells a := by
  rw [cellAt, List.find?_cons]
  split <;> simp_all [cellAt]

theorem cellAt_eq_none_iff {cells : List (Nat × Byte)} {a : Nat} : cellAt cells a = none ↔ ∀ c ∈ cells, c.1 ≠ a := by
  simp [cellAt]

theorem covers_eq (cells : List (Nat × Byte)) (a : Nat) : covers cells a = (cellAt cells a).isSome := by
  rw [Bool.eq_iff_iff, covers, List.any_eq_true, cellAt, Option.isSome_map, List.find?_isSome]

theorem cellAt_filter_lt (cells : List (Nat × Byte)) (n a : Nat) :
    cellAt (cells.filter fun c => decide (c.1 < n)) a = if a < n then cellAt cells a else none := by
  induction cells with
  | nil => simp [cellAt]
  | cons c cells ih =>
    by_cases hc : c.1 < n
    · rw [List.filter_cons_of_pos (by simpa using hc), cellAt_cons, ih, cellAt_cons]
      split
      · rw [if_pos (by omega)]
      · rfl
    · rw [List.filter_cons_of_neg (by simpa using hc), ih, cellAt_cons]
      split
      · rw [if_neg (by omega)]
      · rfl

/-- No address is enabled twice. -/
abbrev DistinctCells (cells : List (Nat × Byte)) : Prop := (cells.map (·.1)).Nodup

theorem Memory.get_putAll {m : Memory} {cells : List (Nat × Byte)} (hm : Memory.wf m = true) (hcells : DistinctCells cells)
    (a : Nat) : Memory.get (Memory.putAll m cells) a = (cellAt cells a).getD (Memory.get m a) := by
  induction cells generalizing m with
  | nil => rfl
  | cons c cells ih =>
    obtain ⟨hfresh, hrest⟩ := List.nodup_cons.mp hcells
    have hstep : Memory.putAll m (c :: cells) = Memory.putAll (Memory.put m c.1 c.2) cells := rfl
    rw [hstep, ih (Memory.wf_put _ _ _ hm) hrest, Memory.get_put _ _ _ _ hm, cellAt_cons]
    by_cases ha : c.1 = a
    · have hnone : cellAt cells a = none :=
        cellAt_eq_none_iff.mpr fun d hd hda => hfresh (List.mem_map.mpr ⟨d, hd, hda.trans ha.symm⟩)
      rw [if_pos ha, if_pos ha.symm, hnone]
      rfl
    · rw [if_neg ha, if_neg (Ne.symm ha)]

/-! ### Words and bursts -/

/-- The addresses of a word's enabled bytes rise. -/
theorem laneCells_rising (a : Nat) (l : Lanes) :
    (laneCells a l).Pairwise (fun c d => c.1 < d.1) ∧ ∀ c ∈ laneCells a l, a ≤ c.1 ∧ c.1 < a + 4 := by
  have haddr {c : Nat × Option Byte} {d : Nat × Byte} (h : (c.2.map fun b => (c.1, b)) = some d) : d.1 = c.1 := by
    obtain ⟨b, -, rfl⟩ := Option.map_eq_some_iff.mp h
    rfl
  refine ⟨List.Pairwise.filterMap _ (R := fun c d => c.1 < d.1) (fun c c' hlt d hd d' hd' => ?_) (by simp), fun d hd => ?_⟩
  · rwa [haddr hd, haddr hd']
  · obtain ⟨c, hc, hcd⟩ := List.mem_filterMap.mp hd
    rw [haddr hcd]
    simp only [List.mem_cons, List.not_mem_nil, or_false] at hc
    rcases hc with rfl | rfl | rfl | rfl <;> exact ⟨by omega, by omega⟩

theorem wordCells_rising (a : Nat) (ls : List Lanes) :
    (wordCells a ls).Pairwise (fun c d => c.1 < d.1) ∧ ∀ c ∈ wordCells a ls, a ≤ c.1 ∧ c.1 < a + 4 * ls.length := by
  induction ls generalizing a with
  | nil => exact ⟨.nil, by simp [wordCells]⟩
  | cons l ls ih =>
    obtain ⟨hfirst, hin⟩ := laneCells_rising a l
    obtain ⟨hrest, hlater⟩ := ih (a + 4)
    refine ⟨List.pairwise_append.mpr ⟨hfirst, hrest, fun c hc d hd => ?_⟩, fun c hc => ?_⟩
    · have := hin c hc
      have := hlater d hd
      omega
    · rw [List.length_cons]
      rcases List.mem_append.mp hc with hc | hc
      · have := hin c hc
        omega
      · have := hlater c hc
        omega

theorem distinctCells_of_rising {cells : List (Nat × Byte)} (h : cells.Pairwise (fun c d => c.1 < d.1)) :
    DistinctCells cells := List.pairwise_map.mpr (h.imp fun hlt => Nat.ne_of_lt hlt)

theorem distinctCells_burst (b : WriteBurst) : DistinctCells (burstCells b) :=
  distinctCells_of_rising (wordCells_rising _ _).1

theorem distinctCells_filter {cells : List (Nat × Byte)} (h : DistinctCells cells) (p : Nat × Byte → Bool) :
    DistinctCells (cells.filter p) := h.sublist (List.filter_sublist.map _)

/-! ### Entries of the queue (R150, R153) -/

section
variable (w : QWord)

theorem QWord.byteAt_zero : w.byteAt w.addr = w.lanes.b0 := if_pos rfl
theorem QWord.byteAt_one : w.byteAt (w.addr + 1) = w.lanes.b1 := by simp [QWord.byteAt]
theorem QWord.byteAt_two : w.byteAt (w.addr + 2) = w.lanes.b2 := by simp [QWord.byteAt]
theorem QWord.byteAt_three : w.byteAt (w.addr + 3) = w.lanes.b3 := by simp [QWord.byteAt]

theorem QWord.byteAt_outside {a : Nat} (h : a < w.addr ∨ w.addr + 4 ≤ a) : w.byteAt a = none := by
  rw [QWord.byteAt, if_neg (by omega), if_neg (by omega), if_neg (by omega), if_neg (by omega)]

/-- An address is one of the four of an entry, or none of them. -/
theorem QWord.addr_cases (a : Nat) :
    a = w.addr ∨ a = w.addr + 1 ∨ a = w.addr + 2 ∨ a = w.addr + 3 ∨ (a < w.addr ∨ w.addr + 4 ≤ a) := by omega

theorem QWord.enabled_iff : w.enabled = true ↔ ∃ i < 4, (w.byteAt (w.addr + i)).isSome = true := by
  constructor
  · intro h
    simp only [QWord.enabled, Bool.or_eq_true, or_assoc] at h
    rcases h with h | h | h | h
    · exact ⟨0, by decide, by rwa [Nat.add_zero, w.byteAt_zero]⟩
    · exact ⟨1, by decide, by rwa [w.byteAt_one]⟩
    · exact ⟨2, by decide, by rwa [w.byteAt_two]⟩
    · exact ⟨3, by decide, by rwa [w.byteAt_three]⟩
  · rintro ⟨i, hi, h⟩
    interval_cases i
    · simp [QWord.enabled, w.byteAt_zero ▸ h]
    · simp [QWord.enabled, w.byteAt_one ▸ h]
    · simp [QWord.enabled, w.byteAt_two ▸ h]
    · simp [QWord.enabled, w.byteAt_three ▸ h]

theorem QWord.byteAt_of_not_enabled (h : w.enabled = false) (a : Nat) : w.byteAt a = none := by
  simp only [QWord.enabled, Bool.or_eq_false_iff, Option.isSome_eq_false_iff, Option.isNone_iff_eq_none] at h
  obtain ⟨⟨⟨h0, h1⟩, h2⟩, h3⟩ := h
  rcases w.addr_cases a with rfl | rfl | rfl | rfl | hout
  · rw [w.byteAt_zero, h0]
  · rw [w.byteAt_one, h1]
  · rw [w.byteAt_two, h2]
  · rw [w.byteAt_three, h3]
  · exact w.byteAt_outside hout

/-- R155: supersession takes exactly the write's bytes out of an entry. -/
theorem QWord.byteAt_strip (cells : List (Nat × Byte)) (a : Nat) :
    (w.strip cells).byteAt a = if (cellAt cells a).isSome then none else w.byteAt a := by
  have haddr : (w.strip cells).addr = w.addr := rfl
  rw [← covers_eq]
  rcases w.addr_cases a with rfl | rfl | rfl | rfl | hout
  · rw [w.byteAt_zero, ← haddr, QWord.byteAt_zero]; rfl
  · rw [w.byteAt_one, ← haddr, QWord.byteAt_one]; rfl
  · rw [w.byteAt_two, ← haddr, QWord.byteAt_two]; rfl
  · rw [w.byteAt_three, ← haddr, QWord.byteAt_three]; rfl
  · rw [w.byteAt_outside hout, QWord.byteAt_outside (w.strip cells) hout, ite_self]

/-- A word's enabled bytes lie at its address and the three after it. -/
theorem cellAt_laneCells (a : Nat) : cellAt (laneCells w.addr w.lanes) a = w.byteAt a := by
  have hlane (n : Nat) (b : Option Byte) (cells : List (Nat × Option Byte)) :
      cellAt (((n, b) :: cells).filterMap fun c => c.2.map fun b => (c.1, b)) a =
        (if n = a then b else none).or (cellAt (cells.filterMap fun c => c.2.map fun b => (c.1, b)) a) := by
    cases b with
    | none => simp
    | some b => by_cases h : n = a <;> simp [cellAt_cons, h]
  have hnil : cellAt (([] : List (Nat × Option Byte)).filterMap fun c => c.2.map fun b => (c.1, b)) a = none := rfl
  simp only [laneCells, hlane, hnil, Option.or_none]
  rcases w.addr_cases a with rfl | rfl | rfl | rfl | hout
  · simp [w.byteAt_zero]
  · simp [w.byteAt_one]
  · simp [w.byteAt_two]
  · simp [w.byteAt_three]
  · rw [w.byteAt_outside hout, if_neg (by omega), if_neg (by omega), if_neg (by omega), if_neg (by omega)]
    rfl

end

theorem cellAt_wordCells_outside {start a : Nat} (ls : List Lanes) (h : a < start ∨ start + 4 * ls.length ≤ a) :
    cellAt (wordCells start ls) a = none :=
  cellAt_eq_none_iff.mpr fun c hc => by
    have := (wordCells_rising start ls).2 c hc
    omega

/-- The bytes of word `i` of a burst lie at the word's address. -/
theorem cellAt_wordCells {start i a : Nat} {l : Lanes} {ls : List Lanes} (h : ls[i]? = some l) (hlow : start + 4 * i ≤ a)
    (hhigh : a < start + 4 * i + 4) : cellAt (wordCells start ls) a = QWord.byteAt { addr := start + 4 * i, lanes := l } a := by
  induction ls generalizing start i with
  | nil => simp at h
  | cons l' ls ih =>
    rw [wordCells, cellAt_append, cellAt_laneCells { addr := start, lanes := l' }]
    cases i with
    | zero =>
      cases h
      rw [cellAt_wordCells_outside ls (by omega), Option.or_none]
      rfl
    | succ i =>
      rw [QWord.byteAt_outside _ (by dsimp only; omega), Option.none_or, ih h (by omega) (by omega)]
      congr 2
      omega

/-! ### Forwarding (R154) -/

/-- R154: the newest entry that enables a byte gives it. -/
theorem forward_eq (entries : List QWord) (a : Nat) (b : Byte) :
    forward entries a b = ((entries.filterMap fun w => w.byteAt a).getLast?).getD b := by
  induction entries generalizing b with
  | nil => rfl
  | cons w entries ih =>
    have hstep : forward (w :: entries) a b = forward entries a ((w.byteAt a).getD b) := rfl
    rw [hstep, ih, List.filterMap_cons]
    cases w.byteAt a with
    | none => rfl
    | some v => simp [List.getLast?_cons]

theorem forward_supersede (entries : List QWord) (cells : List (Nat × Byte)) (a : Nat) (b : Byte) :
    forward ((entries.map (QWord.strip cells)).filter QWord.enabled) a b =
      if (cellAt cells a).isSome then b else forward entries a b := by
  have hbytes : ((entries.map (QWord.strip cells)).filter QWord.enabled).filterMap (fun w => w.byteAt a) =
      entries.filterMap fun w => if (cellAt cells a).isSome then none else w.byteAt a := by
    induction entries with
    | nil => rfl
    | cons w entries ih =>
      rw [List.map_cons, List.filterMap_cons, ← w.byteAt_strip]
      cases henabled : (w.strip cells).enabled with
      | true => rw [List.filter_cons_of_pos henabled, List.filterMap_cons, ih]
      | false =>
        rw [List.filter_cons_of_neg (by simp [henabled]), ih, QWord.byteAt_of_not_enabled _ henabled]
  rw [forward_eq, hbytes, forward_eq]
  split
  · simp
  · rfl

/-! ### What a write through to memory leaves (R155) -/

section
variable {s t : State} {cells : List (Nat × Byte)} {a : Nat}

theorem State.memByte_of_fitted (h : a < s.fitted) : s.memByte a = Memory.get s.mem a := if_pos h

theorem State.get_storeCells (hm : Memory.wf s.mem = true) (hcells : DistinctCells cells) (a : Nat) :
    Memory.get (s.storeCells cells).mem a = if a < s.fitted then (cellAt cells a).getD (Memory.get s.mem a) else Memory.get s.mem a := by
  have hget := Memory.get_putAll hm (distinctCells_filter hcells fun c => decide (c.1 < s.fitted)) a
  rw [cellAt_filter_lt] at hget
  refine hget.trans ?_
  split <;> rfl

/-- What every granted write leaves of memory and of the queue: the write's bytes are in memory and in no entry, and every other
byte of memory and of every read keeps. -/
structure WroteThrough (s t : State) (cells : List (Nat × Byte)) : Prop where
  beyond : ∀ a, s.fitted ≤ a → Memory.get t.mem a = Memory.get s.mem a
  wrote : ∀ a v, cellAt cells a = some v → a < s.fitted → Memory.get t.mem a = v ∧ t.readByte a = v
  kept : ∀ a, cellAt cells a = none → Memory.get t.mem a = Memory.get s.mem a ∧ t.readByte a = s.readByte a
  entries : t.pwq.entries = (s.pwq.entries.map (QWord.strip cells)).filter QWord.enabled
  superseded : ∀ w ∈ t.pwq.entries, w.enabled = true ∧ ∀ a v, cellAt cells a = some v → w.byteAt a = none

theorem WroteThrough.of_writeThrough (hm : Memory.wf s.mem = true) (hcells : DistinctCells cells)
    (hmem : t.mem = (s.writeThrough cells).mem) (hentries : t.pwq.entries = (s.writeThrough cells).pwq.entries)
    (hfitted : t.fitted = s.fitted) (hopen : t.openReads = s.openReads) : WroteThrough s t cells := by
  have hget (a : Nat) : Memory.get t.mem a =
      if a < s.fitted then (cellAt cells a).getD (Memory.get s.mem a) else Memory.get s.mem a := by
    rw [hmem]; exact State.get_storeCells (s := (s.countMasterGrant).supersede cells) hm hcells a
  have hread (a : Nat) : t.readByte a = if (cellAt cells a).isSome then t.memByte a else forward s.pwq.entries a (t.memByte a) := by
    rw [State.readByte, hentries]; exact forward_supersede ..
  refine ⟨fun a ha => ?_, fun a v hv ha => ?_, fun a hnone => ?_, hentries, fun w hw => ?_⟩
  · rw [hget, if_neg (by omega)]
  · have hbyte : Memory.get t.mem a = v := by rw [hget, if_pos ha, hv]; rfl
    refine ⟨hbyte, ?_⟩
    rw [hread, hv, State.memByte_of_fitted (hfitted ▸ ha), hbyte]
    rfl
  · have hbyte : Memory.get t.mem a = Memory.get s.mem a := by rw [hget, hnone]; exact ite_self _
    refine ⟨hbyte, ?_⟩
    rw [hread, hnone, State.readByte, State.memByte, State.memByte, hbyte, hfitted, hopen]
    rfl
  · rw [hentries] at hw
    obtain ⟨hmem', henabled⟩ := List.mem_filter.mp hw
    obtain ⟨w', -, rfl⟩ := List.mem_map.mp hmem'
    exact ⟨henabled, fun a v hv => by rw [QWord.byteAt_strip, hv]; rfl⟩

end

end Sys2Proof.Machine

/-! Passed writes, plain reads and drains (R58, R77, R153 to R155). -/
namespace Sys2Proof.Machine

/-! ### The area of an address (R58, R77) -/

section
variable {s : State} {a : Nat}

theorem State.areaOf_of_control (h : s.controlBase ≤ a ∧ a < s.controlBase + 32768) : s.areaOf a = .control :=
  if_pos (inArea_iff.mpr h)

theorem State.areaOf_of_idle (h : ¬ (s.controlBase ≤ a ∧ a < s.controlBase + 32768)) (hidle : s.part.state = .idle) :
    s.areaOf a = .plain := by
  rw [State.areaOf, if_neg (mt inArea_iff.mp h), if_pos hidle]

/-- Outside the control area a RUNNING part looks at its windows in turn. -/
theorem State.areaOf_of_running (h : ¬ (s.controlBase ≤ a ∧ a < s.controlBase + 32768)) (hrun : s.part.state = .running) :
    s.areaOf a =
      if s.win.ingressBase ≤ a ∧ a < s.win.ingressBase + s.win.frames * s.win.slots then .ingressPcm
      else if s.win.egressBase ≤ a ∧ a < s.win.egressBase + s.win.frames * s.win.slots then .egressPcm
      else if s.win.mobInBase ≤ a ∧ a < s.win.mobInBase + s.win.ni * 128 then .mobileIngress
      else .plain := by
  rw [State.areaOf, if_neg (mt inArea_iff.mp h), if_neg (by simp [hrun])]
  simp only [inArea_iff]

end

theorem exec_masterWrite_of_turn {s : State} {b : WriteBurst} {c : Instr} (hc : c ∈ writeRows b) (hb : b.wf = true)
    (h : s.masterTurn) : exec c s = .next (s.grantWrite b) :=
  (exec_writeRow hc s).trans (masterWriteAccess_of_turn hb h)

/-- Settles O6. -/
theorem plainWrite : Obligations.PlainWrite := by
  refine ⟨fun s a => ?_, fun b a => ⟨fun h => cellAt_wordCells_outside _ h, fun i l hl => ?_⟩, fun w cells a => ?_,
    fun s b hb hturn hmem harea => ?_⟩
  · refine ⟨rfl, State.areaOf_of_control, State.areaOf_of_idle, fun w hw => ?_⟩
    have hwin : s.win = w := by rw [State.win, hw]; rfl
    refine ⟨hwin, fun hrun hcontrol => ?_⟩
    rw [State.areaOf_of_running hcontrol hrun, hwin]
    refine ⟨fun h _ _ => if_pos h, fun h h' _ => ?_, fun h h' h'' => ?_, fun h h' h'' => ?_⟩
    · rw [if_neg h', if_pos h]
    · rw [if_neg h', if_neg h'', if_pos h]
    · rw [if_neg h, if_neg h', if_neg h'']
  · have hword {x : Nat} (hlow : b.addr.toNat + 4 * i ≤ x) (hhigh : x < b.addr.toNat + 4 * i + 4) :=
      cellAt_wordCells hl hlow hhigh
    exact ⟨(hword (by omega) (by omega)).trans (QWord.byteAt_zero _), (hword (by omega) (by omega)).trans (QWord.byteAt_one _),
      (hword (by omega) (by omega)).trans (QWord.byteAt_two _), (hword (by omega) (by omega)).trans (QWord.byteAt_three _)⟩
  · exact ⟨rfl, w.byteAt_strip cells a, w.enabled_iff⟩
  · have hgrant : exec (.masterWrite b) s = .next (s.writeThrough (burstCells b)) := by
      rw [exec_masterWrite_of_turn (by simp [writeRows]) hb hturn, State.grantWrite_of_passed harea]
    have hwrote : WroteThrough s (s.writeThrough (burstCells b)) (burstCells b) :=
      .of_writeThrough hmem.1 (distinctCells_burst b) rfl rfl rfl rfl
    exact ⟨_, hgrant, rfl, hwrote.entries, hwrote.wrote, hwrote.kept, hwrote.beyond, hwrote.superseded⟩

/-- Settles O7. -/
theorem plainRead : Obligations.PlainRead := by
  refine ⟨fun w a => ⟨w.byteAt_zero, w.byteAt_one, w.byteAt_two, w.byteAt_three, w.byteAt_outside⟩,
    fun _ _ => State.memByte_of_fitted, fun s a => forward_eq .., fun s b hb hturn harea => ?_⟩
  have hread : exec (.masterRead b) s = .next (s.grantRead b) := masterReadAccess_of_turn hb hturn
  have harea' : ¬ s.countMasterGrant.areaOf b.addr.toNat = .egressPcm :=
    (State.areaOf_congr (s := s) (t := s.countMasterGrant) rfl _).symm ▸ harea
  rw [hread, State.grantRead, if_neg harea', State.returned, State.noteRead_eq]
  rfl

/-! ### Drains (R153) -/

theorem State.drainGrant_of_entries {s : State} {w : QWord} {rest : List QWord} (h : s.pwq.entries = w :: rest) :
    s.drainGrant = { s with
      mem := (s.storeCells (laneCells w.addr w.lanes)).mem, pwq := { s.pwq with entries := rest }
      mpa := { s.mpa with drainCount := 0 } } := by
  simp only [State.drainGrant, h]
  rfl

/-- Settles O26: what the word enabled was read through the queue before, and is read from memory after. -/
theorem drainOldestWord : Obligations.DrainOldestWord := by
  intro s w rest hturn hmem hentries
  have hsettle : s.settle = s := State.settle_of_settled hturn.1
  have hexec : exec .drain s = .next s.drainGrant := by
    simp [exec, execDrain, hsettle, hentries, State.await_of_queueTurn hturn]
  have hget (a : Nat) : Memory.get (s.storeCells (laneCells w.addr w.lanes)).mem a =
      if a < s.fitted then (w.byteAt a).getD (Memory.get s.mem a) else Memory.get s.mem a := by
    rw [State.get_storeCells hmem.1 (distinctCells_of_rising (laneCells_rising _ _).1), cellAt_laneCells]
  rw [hexec, State.drainGrant_of_entries hentries]
  refine ⟨_, rfl, rfl, fun a ha => ?_, fun a ha => ?_⟩
  · have hbyte := (hget a).trans (if_pos ha)
    refine ⟨hbyte, ?_⟩
    rw [State.readByte, State.memByte_of_fitted (by exact ha), State.readByte, hentries, State.memByte_of_fitted ha]
    exact congrArg (forward rest a) hbyte
  · rcases ha with hnone | hbeyond
    · refine (hget a).trans ?_
      rw [hnone]
      exact ite_self _
    · exact (hget a).trans (if_neg (by omega))

end Sys2Proof.Machine

/-! The reads of a fetch (R115 to R117), and the header-word events that begin and end fetches (R76, R113, R114, R121). -/
namespace Sys2Proof.Machine

/-! ### The end of a fetch (R112, R117) -/

/-- The fetch unit once a fetch has ended: the entries left, the oldest of them begun. -/
def Ffu.begun (overrun : Bool) : List FetchEntry → Ffu
  | [] => { queue := [], buffer := none, overrun := false }
  | e :: rest =>
    { queue := { e with state := .reading } :: rest
      buffer := some { slot := e.slot, stale := false, phase := .header }, overrun := overrun }

theorem Ffu.finish_eq (stale : Bool) (u : Ffu) :
    u.finish stale = Ffu.begun u.overrun (if stale then u.queue else u.queue.tail) := by
  have hpromote (queue : List FetchEntry) :
      (Ffu.clearIfEmpty { u with queue := queue, buffer := none }).promote = Ffu.begun u.overrun queue := by
    cases queue with
    | nil => rfl
    | cons e rest => rfl
  exact hpromote _

section
variable {s : State} {f : Fetch}

/-- The state in which a granted fetch read is looked at: its count, and the model's count of open reads. -/
def State.fetchRead (s : State) (a n : Nat) : State :=
  { s with
    mpa := { s.mpa with fetchCount := 0 }
    openReads := if a + n ≤ s.fitted then s.openReads else s.openReads + 1 }

theorem State.fetchRead_eq (a n : Nat) : s.countFetchGrant.noteRead a n = s.fetchRead a n := State.noteRead_eq ..

theorem State.fetchGrant_of_header (hf : s.ffu.buffer = some f) (hphase : f.phase = .header) :
    s.fetchGrant =
      (s.fetchRead (s.ingressWordAddr f.slot 0) 4).headerTaken f (s.readBytes (s.ingressWordAddr f.slot 0) 4) := by
  rw [← State.fetchRead_eq]
  simp only [State.fetchGrant, hf, hphase]

theorem State.fetchGrant_of_body {length tag next : Nat} {got : List Byte} (hf : s.ffu.buffer = some f)
    (hphase : f.phase = .body length tag next got) :
    s.fetchGrant = (s.fetchRead (s.ingressWordAddr f.slot next) (4 * (burstEnd length next - next))).bodyTaken f length tag next
      (got ++ s.readBytes (s.ingressWordAddr f.slot next) (4 * (burstEnd length next - next))) := by
  rw [← State.fetchRead_eq]
  simp only [State.fetchGrant, hf, hphase]

theorem exec_fetchHeaderRead_of_turn (h : s.fetchTurn) (hf : s.ffu.buffer = some f) (hphase : f.phase = .header) :
    exec .fetchHeaderRead s = .next s.fetchGrant := by
  obtain ⟨slot, stale, phase⟩ := f
  cases hphase
  have hclaimed : s.headerClaimed = true := by simp only [State.headerClaimed, hf]
  have hsettle : s.settle = s := State.settle_of_settled h.1
  simp only [exec, execFetchHeaderRead, hsettle, hclaimed, if_true, State.await_of_fetchTurn h]

theorem exec_fetchBodyRead_of_turn {length tag next : Nat} {got : List Byte} (h : s.fetchTurn) (hf : s.ffu.buffer = some f)
    (hphase : f.phase = .body length tag next got) : exec .fetchBodyRead s = .next s.fetchGrant := by
  obtain ⟨slot, stale, phase⟩ := f
  cases hphase
  have hclaimed : s.bodyClaimed = true := by simp only [State.bodyClaimed, hf]
  have hsettle : s.settle = s := State.settle_of_settled h.1
  simp only [exec, execFetchBodyRead, hsettle, hclaimed, if_true, State.await_of_fetchTurn h]

theorem State.fetchDone_eq (s : State) (f : Fetch) :
    s.fetchDone f = { s with ffu := Ffu.begun s.ffu.overrun (if f.stale then s.ffu.queue else s.ffu.queue.tail) } := by
  rw [State.fetchDone, Ffu.finish_eq]

end

/-- Settles O28. -/
theorem headerReadGrant : Obligations.HeaderReadGrant := by
  intro s f hturn hf hphase a length tag valid u left done
  have hbytes : s.readBytes a 4 = [s.readByte a, s.readByte (a + 1), s.readByte (a + 2), s.readByte (a + 3)] := by
    simp [State.readBytes, List.range_succ]
  have hdone : u.fetchDone f = done := by
    rw [State.fetchDone_eq]
    change { u with ffu := Ffu.begun s.ffu.overrun left } = done
    simp only [done]
    cases left <;> rfl
  have ha : s.ingressWordAddr f.slot 0 = a := rfl
  rw [exec_fetchHeaderRead_of_turn hturn hf hphase, State.fetchGrant_of_header hf hphase, ha, hbytes, ← hdone]
  rfl

/-- Settles O29. -/
theorem bodyReadGrant : Obligations.BodyReadGrant := by
  intro s f length tag next got hturn hf hphase a words stop bytes u left done
  have hdone : u.fetchDone f = done := by
    rw [State.fetchDone_eq]
    change { u with ffu := Ffu.begun s.ffu.overrun left } = done
    simp only [done]
    cases left <;> rfl
  have hstop : burstEnd length next = stop := by
    simp only [stop, burstEnd, Nat.mul_comm 8]
    rfl
  rw [exec_fetchBodyRead_of_turn hturn hf hphase, State.fetchGrant_of_body hf hphase, State.bodyTaken, hstop, ← hdone]
  rfl

/-! ### Notices (R167) -/

section
variable {s t : State} {kind : NoticeKind} {ctx detail : Nat} {l : List Nat}

/-- A notice request looks at the windows, the clocks and the notice writer alone. -/
theorem State.placeNotice_ntw_congr (hpart : t.part = s.part) (hntw : t.ntw = s.ntw) :
    (t.placeNotice kind ctx detail l).ntw = (s.placeNotice kind ctx detail l).ntw := by
  simp only [State.placeNotice, State.win_congr hpart, hntw, apply_ite State.ntw]
  congr 1
  simp only [State.requestGroup, hntw]

theorem State.placeNotice_waiting_congr (hpart : t.part = s.part) (hclocks : t.clocks = s.clocks) (hntw : t.ntw = s.ntw)
    (hwaiting : t.pwq.waiting = s.pwq.waiting) :
    (t.placeNotice kind ctx detail l).pwq.waiting = (s.placeNotice kind ctx detail l).pwq.waiting := by
  simp only [State.placeNotice, State.win_congr hpart, State.indexWord, State.controlBase_congr hpart, hntw, hclocks,
    apply_ite State.pwq, apply_ite Pwq.waiting, State.requestGroup, hwaiting]

end

/-! ### Header-word events -/

section
variable {s : State} {u : Ffu} {slot : Nat}

theorem Ffu.append_of_busy (h : u.buffer ≠ none) :
    u.append slot = { u with queue := u.queue ++ [{ slot := slot, state := .waiting }] } := by
  obtain ⟨queue, buffer, overrun⟩ := u
  cases buffer with
  | none => exact absurd rfl h
  | some f => rfl

theorem Ffu.append_of_idle (hbuffer : u.buffer = none) (hqueue : u.queue = []) :
    u.append slot = { u with
      queue := [{ slot := slot, state := .reading }]
      buffer := some { slot := slot, stale := false, phase := .header } } := by
  obtain ⟨queue, buffer, overrun⟩ := u
  cases hbuffer
  cases hqueue
  rfl

theorem Ffu.lawful.queue_of_idle (h : u.lawful) (hbuffer : u.buffer = none) : u.queue = [] := by
  obtain ⟨-, -, hidle, -⟩ := h
  rwa [hbuffer] at hidle

/-- R112: no slot has an entry in either state at once. -/
theorem Ffu.lawful.not_reading_of_waiting (h : u.lawful) (hw : FetchEntry.mk slot .waiting ∈ u.queue) :
    FetchEntry.mk slot .reading ∉ u.queue := by
  intro hr
  obtain ⟨f, rest, -, -, -, hqueue, -⟩ := Ffu.lawful_of_reading h hr
  obtain ⟨-, hnodup, -, -⟩ := h
  rw [hqueue, List.map_cons, List.nodup_cons] at hnodup
  rw [hqueue, List.mem_cons] at hw
  obtain hw | hw := hw
  · cases hw
  · exact hnodup.1 (List.mem_map.mpr ⟨_, hw, rfl⟩)

theorem State.headerValid_of_waiting (h : FetchEntry.mk slot .waiting ∈ s.ffu.queue) : s.headerValid slot = s :=
  if_pos (Ffu.hasWaiting_iff.mpr h)

theorem State.headerValid_of_reading (hlaw : s.ffu.lawful) (h : FetchEntry.mk slot .reading ∈ s.ffu.queue) :
    s.headerValid slot = { s with ffu := { s.ffu with
      queue := s.ffu.queue.filter (fun e => decide (e ≠ FetchEntry.mk slot .reading)) ++ [FetchEntry.mk slot .waiting]
      buffer := s.ffu.buffer.map fun f => { f with stale := true } } } := by
  have hw : ¬ s.ffu.hasWaiting slot = true := fun hw => hlaw.not_reading_of_waiting (Ffu.hasWaiting_iff.mp hw) h
  obtain ⟨f, _, hf, -⟩ := Ffu.lawful_of_reading hlaw h
  rw [State.headerValid, if_neg hw, if_pos (Ffu.hasReading_iff.mpr h),
    Ffu.append_of_busy (by simp [Ffu.makeStale, hf])]
  rfl

theorem State.headerValid_of_room (hw : FetchEntry.mk slot .waiting ∉ s.ffu.queue)
    (hr : FetchEntry.mk slot .reading ∉ s.ffu.queue) (hroom : s.ffu.queue.length < 16) :
    s.headerValid slot = { s with ffu := s.ffu.append slot } := by
  rw [State.headerValid, if_neg (mt Ffu.hasWaiting_iff.mp hw), if_neg (mt Ffu.hasReading_iff.mp hr)]
  exact if_pos hroom

theorem State.headerValid_of_full (hw : FetchEntry.mk slot .waiting ∉ s.ffu.queue)
    (hr : FetchEntry.mk slot .reading ∉ s.ffu.queue) (hfull : s.ffu.queue.length = 16) :
    s.headerValid slot = s.noticeOverrun slot := by
  rw [State.headerValid, if_neg (mt Ffu.hasWaiting_iff.mp hw), if_neg (mt Ffu.hasReading_iff.mp hr)]
  exact if_neg (by rw [hfull]; decide)

theorem State.headerInvalid_of_waiting (h : FetchEntry.mk slot .waiting ∈ s.ffu.queue) :
    s.headerInvalid slot = { s with ffu := (s.ffu.dropWaiting slot).clearIfEmpty } := if_pos (Ffu.hasWaiting_iff.mpr h)

theorem State.headerInvalid_of_reading (hlaw : s.ffu.lawful) (h : FetchEntry.mk slot .reading ∈ s.ffu.queue) :
    s.headerInvalid slot = { s with ffu := (s.ffu.makeStale slot).clearIfEmpty } := by
  have hw : ¬ s.ffu.hasWaiting slot = true := fun hw => hlaw.not_reading_of_waiting (Ffu.hasWaiting_iff.mp hw) h
  rw [State.headerInvalid, if_neg hw, if_pos (Ffu.hasReading_iff.mpr h)]

theorem State.headerInvalid_of_absent (hw : FetchEntry.mk slot .waiting ∉ s.ffu.queue)
    (hr : FetchEntry.mk slot .reading ∉ s.ffu.queue) : s.headerInvalid slot = s := by
  rw [State.headerInvalid, if_neg (mt Ffu.hasWaiting_iff.mp hw), if_neg (mt Ffu.hasReading_iff.mp hr)]

theorem Ffu.clearIfEmpty_queue (u : Ffu) : u.clearIfEmpty.queue = u.queue := by
  unfold Ffu.clearIfEmpty; split <;> rfl

theorem Ffu.clearIfEmpty_buffer (u : Ffu) : u.clearIfEmpty.buffer = u.buffer := by
  unfold Ffu.clearIfEmpty; split <;> rfl

theorem Ffu.clearIfEmpty_overrun (u : Ffu) :
    (u.queue = [] → u.clearIfEmpty.overrun = false) ∧ (u.queue ≠ [] → u.clearIfEmpty.overrun = u.overrun) :=
  ⟨fun h => by simp [Ffu.clearIfEmpty, h], fun h => by simp [Ffu.clearIfEmpty, h]⟩

theorem State.noticeOverrun_of_flagged (h : s.ffu.overrun = true) : s.noticeOverrun slot = s := if_pos h

theorem State.noticeOverrun_of_unflagged (h : s.ffu.overrun = false) :
    s.noticeOverrun slot = { s with ffu := { s.ffu with overrun := true } }.placeNotice .fetchOverrun partWide slot noCounters :=
  if_neg (by simp [h])

/-- A header-word event touches the fetch unit, the notice writer and the order of waiting groups alone. -/
theorem State.mobileIngress_frame (s : State) (addr : Nat) (cells : List (Nat × Byte)) :
    s.mobileIngress addr cells = { s with
      ffu := (s.mobileIngress addr cells).ffu, ntw := (s.mobileIngress addr cells).ntw
      pwq := { s.pwq with waiting := (s.mobileIngress addr cells).pwq.waiting } } := by
  simp only [State.mobileIngress]
  cases cellAt cells (s.ingressWordAddr ((addr - s.win.mobInBase) / 128) 0 + 3) with
  | none => rfl
  | some v =>
    dsimp only
    generalize (addr - s.win.mobInBase) / 128 = slot
    split
    · unfold State.headerValid
      split_ifs
      · rfl
      · rfl
      · rfl
      · unfold State.noticeOverrun
        split
        · rfl
        · rw [State.placeNotice_frame]
    · unfold State.headerInvalid
      split_ifs <;> rfl

end

/-- Settles O13: the write goes through to memory, and its event is one of the two of the fetch unit. -/
theorem mobileIngressEvent : Obligations.MobileIngressEvent := by
  intro s b hb hturn hmem hlaw harea slot valid queue waiting reading stale
  have hexec : exec (.mobileIngressWrite b) s =
      .next ((s.writeThrough (burstCells b)).mobileIngress b.addr.toNat (burstCells b)) := by
    rw [exec_masterWrite_of_turn (by simp [writeRows]) hb hturn, State.grantWrite_of_mobileIngress harea]
  have hlawful : s.ffu.lawful := hlaw
  have hframe := State.mobileIngress_frame (s.writeThrough (burstCells b)) b.addr.toNat (burstCells b)
  have hevent : (s.writeThrough (burstCells b)).mobileIngress b.addr.toNat (burstCells b) =
      match valid with
      | none => s.writeThrough (burstCells b)
      | some v => if v.getLsbD 7 then (s.writeThrough (burstCells b)).headerValid slot
          else (s.writeThrough (burstCells b)).headerInvalid slot := rfl
  refine ⟨_, hexec, ?_⟩
  generalize (s.writeThrough (burstCells b)).mobileIngress b.addr.toNat (burstCells b) = t at hframe hevent ⊢
  have hwrote : WroteThrough s t (burstCells b) := by
    refine .of_writeThrough hmem.1 (distinctCells_burst b) ?_ ?_ ?_ ?_ <;> rw [hframe] <;> rfl
  refine ⟨by rw [hframe]; rfl, hwrote.beyond, hwrote.wrote, hwrote.kept, hwrote.entries, hwrote.superseded, ?_, ?_, ?_⟩
  · intro hvalid
    rw [hvalid] at hevent
    rw [hevent]
    exact ⟨rfl, rfl, rfl⟩
  · intro v hvalid hbit
    rw [hvalid] at hevent
    dsimp only at hevent
    rw [if_pos hbit] at hevent
    have hw (h : waiting ∈ queue) : t = s.writeThrough (burstCells b) := hevent.trans (State.headerValid_of_waiting h)
    have hr (h : reading ∈ queue) := hevent.trans
      (State.headerValid_of_reading (s := s.writeThrough (burstCells b)) hlawful h)
    have hroom (hw : waiting ∉ queue) (hr : reading ∉ queue) (h : queue.length < 16) := hevent.trans
      (State.headerValid_of_room (s := s.writeThrough (burstCells b)) hw hr h)
    refine ⟨fun h => ?_, fun h => by rw [hw h]; rfl, fun h => by rw [hr h]; rfl, fun hw' hr' => ⟨fun h hbusy => ?_, fun hidle => ?_, fun hfull => ?_⟩⟩
    · by_cases hw' : waiting ∈ queue
      · rw [hw hw']; exact ⟨rfl, rfl⟩
      · by_cases hr' : reading ∈ queue
        · rw [hr hr']; exact ⟨rfl, rfl⟩
        · rw [hroom hw' hr' (by tauto)]; exact ⟨rfl, rfl⟩
    · rw [hroom hw' hr' h]
      exact Ffu.append_of_busy hbusy
    · have hempty := hlawful.queue_of_idle hidle
      rw [hroom hw' hr' (by simp [queue, hempty])]
      exact Ffu.append_of_idle hidle hempty
    · have hfullt := hevent.trans (State.headerValid_of_full (s := s.writeThrough (burstCells b)) hw' hr' hfull)
      cases hover : s.ffu.overrun with
      | true =>
        rw [hfullt, State.noticeOverrun_of_flagged (s := s.writeThrough (burstCells b)) hover]
        exact ⟨by rw [← hover]; rfl, fun _ => ⟨rfl, rfl⟩, nofun⟩
      | false =>
        rw [hfullt, State.noticeOverrun_of_unflagged (s := s.writeThrough (burstCells b)) hover]
        refine ⟨State.placeNotice_ffu _ _ _ _ _, nofun, fun _ => ⟨?_, ?_⟩⟩
        · exact State.placeNotice_ntw_congr rfl rfl
        · exact State.placeNotice_waiting_congr rfl rfl rfl rfl
  · intro v hvalid hbit
    rw [hvalid] at hevent
    dsimp only at hevent
    rw [if_neg (by rw [hbit]; decide)] at hevent
    by_cases hw : waiting ∈ queue
    · rw [hevent, State.headerInvalid_of_waiting (s := s.writeThrough (burstCells b)) hw]
      have hr := hlawful.not_reading_of_waiting hw
      obtain ⟨hempty, hleft⟩ := Ffu.clearIfEmpty_overrun (s.ffu.dropWaiting slot)
      exact ⟨rfl, rfl, fun _ => ⟨Ffu.clearIfEmpty_queue _, Ffu.clearIfEmpty_buffer _⟩, fun h => absurd h hr,
        fun h => absurd hw h, fun h => hempty ((Ffu.clearIfEmpty_queue _).symm.trans h),
        fun h => hleft fun h' => h ((Ffu.clearIfEmpty_queue _).trans h')⟩
    · by_cases hr : reading ∈ queue
      · rw [hevent, State.headerInvalid_of_reading (s := s.writeThrough (burstCells b)) hlawful hr]
        obtain ⟨hempty, hleft⟩ := Ffu.clearIfEmpty_overrun (s.ffu.makeStale slot)
        exact ⟨rfl, rfl, fun h => absurd h hw, fun _ => ⟨Ffu.clearIfEmpty_queue _, Ffu.clearIfEmpty_buffer _⟩,
          fun _ h => absurd hr h, fun h => hempty ((Ffu.clearIfEmpty_queue _).symm.trans h),
          fun h => hleft fun h' => h ((Ffu.clearIfEmpty_queue _).trans h')⟩
      · rw [hevent, State.headerInvalid_of_absent (s := s.writeThrough (burstCells b)) hw hr]
        exact ⟨rfl, rfl, fun h => absurd h hw, fun h => absurd h hr, fun _ _ => rfl, hlawful.2.2.2, fun _ => rfl⟩

end Sys2Proof.Machine

/-! Accepted context commands (R97 to R106): each is a change of its context's record beside moves of pool blocks, then a status
group. -/
namespace Sys2Proof.Machine

/-! ### A command and its status group (R92, R94) -/

section
variable {s : State} {k : Nat} {tag : Byte}

theorem State.ctxStatus_eq (k : Nat) (r : Result) (tag code : Byte) :
    s.ctxStatus k r tag code = s.withStatus (descriptor k + 4) r tag code (s.ctx k).state.code := rfl

theorem State.commandOpen_accepted (h : s.openRefusal k = none) :
    s.commandOpen k tag = (s.openEffect k).ctxStatus k .done tag 1 := by simp only [State.commandOpen, h]

theorem State.commandModify_accepted (h : s.modifyRefusal k = none) :
    s.commandModify k tag = (s.modifyEffect k).ctxStatus k .done tag 2 := by simp only [State.commandModify, h]

theorem State.commandHandover_accepted (h : s.handoverRefusal k = none) :
    s.commandHandover k tag = (s.handoverEffect k).ctxStatus k .done tag 3 := by simp only [State.commandHandover, h]

theorem State.commandClose_accepted (h : s.closeRefusal k = none) :
    s.commandClose k tag =
      if ((s.closeEffect k tag).ctx k).state = .closed then
        ((s.closeEffect k tag).ctxStatus k .done tag 4).noticeClosed k
      else (s.closeEffect k tag).ctxStatus k .inProgress tag 4 := by simp only [State.commandClose, h]

theorem State.closeRefusal_eq_none_iff : s.closeRefusal k = none ↔ (s.ctx k).state = .active := by
  rw [State.closeRefusal]
  cases (s.ctx k).state <;> simp

theorem State.modifyRefusal_eq_none (hactive : (s.ctx k).state = .active)
    (hallowed : (s.ctx k).cfg.uplink = true → (readAdjustable s.shadow k (s.ctx k).cfg).allowed ≠ 0) :
    s.modifyRefusal k = none := by
  simp only [State.modifyRefusal, hactive]
  rw [if_neg (by decide), if_neg (by decide), if_neg (fun h => hallowed h.1 h.2)]

end

/-! ### The fields of a descriptor (12.2, R97) -/

theorem fieldBit_eq (m : Memory) (off bit : Nat) :
    fieldBit m off bit = decide ((Memory.get m off).toNat / 2 ^ bit % 2 = 1) := Nat.testBit_eq_decide_div_mod_eq

/-- The adjustable fields by their places in the descriptor. -/
theorem readAdjustable_eq (m : Memory) (k : Nat) (c : Captured) :
    let byte off := (Memory.get m (0x400 + 0x40 * k + off)).toNat
    let q := max 2 (min 8 (byte 0x1A))
    readAdjustable m k c =
      { c with
        priority := if byte 0x0A % 2 = 1 then .high else .normal, dtx := decide (byte 0x0B % 2 = 1)
        allowed := BitVec.ofNat 3 (byte 0x12), request := min 3 (byte 0x13)
        tOn := byte 0x14, h := min (byte 0x14) (byte 0x15), decay := byte 0x16 % 4, hangover := byte 0x17 % 16
        echoShift := min 3 (byte 0x18), margin := byte 0x19, q := q, d := min (q - 1) (byte 0x1B)
        tmplLen := min 8 (byte 0x1C)
        tmpl := (List.range 8).map fun i => Memory.get m (0x400 + 0x40 * k + 0x20 + i) } := by
  intro byte q
  simp only [readAdjustable, fieldBit_eq, Nat.pow_zero, Nat.div_one, decide_eq_true_eq, BitVec.ofNat_toNat, byte, q]
  rfl

/-- The captured fields by their places in the descriptor. -/
theorem readCaptured_eq (m : Memory) (k : Nat) :
    let byte off := (Memory.get m (0x400 + 0x40 * k + off)).toNat
    let word off := byte off + 256 * byte (off + 1)
    let q := max 2 (min 8 (byte 0x1A))
    readCaptured m k =
      { law := if byte 0x08 = 1 then .seg15 else .seg13
        uplink := decide (byte 0x09 % 2 = 1), downlink := decide (byte 0x09 / 2 % 2 = 1)
        priority := if byte 0x0A % 2 = 1 then .high else .normal, dtx := decide (byte 0x0B % 2 = 1)
        inSlot := word 0x0C, outSlot := word 0x0E, tag := word 0x10
        allowed := BitVec.ofNat 3 (byte 0x12), request := min 3 (byte 0x13)
        tOn := byte 0x14, h := min (byte 0x14) (byte 0x15), decay := byte 0x16 % 4, hangover := byte 0x17 % 16
        echoShift := min 3 (byte 0x18), margin := byte 0x19, q := q, d := min (q - 1) (byte 0x1B)
        tmplLen := min 8 (byte 0x1C)
        tmpl := (List.range 8).map fun i => Memory.get m (0x400 + 0x40 * k + 0x20 + i) } := by
  intro byte word q
  rw [readCaptured, readAdjustable_eq]
  simp only [fieldBit_eq, Nat.pow_zero, Nat.pow_one, Nat.div_one, byte, word, q]
  rfl

/-! ### What a command finds of the state its write leaves -/

section
variable (s : State) (b : WriteBurst)

@[simp] theorem State.written_tapSet (t : Nat) : (s.written b).tapSet t = s.tapSet t := by
  rw [State.tapSet, State.written_tsm, State.tapSet]

@[simp] theorem State.written_claimList (t : Nat) : (s.written b).claimList t = s.claimList t := by
  rw [State.claimList, State.written_tsm, State.claimList]

@[simp] theorem State.written_win : (s.written b).win = s.win := State.win_congr (State.written_part s b)

@[simp] theorem State.written_controlBase : (s.written b).controlBase = s.controlBase :=
  State.controlBase_congr (State.written_part s b)

end

/-! ### OPEN -/

theorem State.commandOpen_eq {s : State} {k : Nat} (h : s.openRefusal k = none) (hk : k < s.ctxs.length) (tag : Byte) :
    let cfg := readCaptured s.shadow k
    s.commandOpen k tag = (s.withRecords (s.ctxs.set k ((s.ctx k).opened k cfg)) (s.tsm.join k cfg)
      (if cfg.downlink then s.tags ++ [(cfg.tag, k)] else s.tags)
      { s.engine with jobs := if cfg.downlink then s.engine.jobs ++ [Job.mk k .decode] else s.engine.jobs }).withStatus
        (descriptor k + 4) .done tag 1 1 := by
  have hactive : ((s.openEffect k).ctx k).state = .active := by
    rw [State.openEffect_ctx hk, if_pos rfl]
    rfl
  rw [State.commandOpen_accepted h, State.ctxStatus_eq, hactive, State.openEffect_eq]
  rfl

/-- Settles O16: the effect of an accepted OPEN is one new record, its places in the map and its tag. -/
theorem openAccepted : Obligations.OpenAccepted := by
  intro s b k tag hgrant hlen g byte word q cfg c quiet det half hrunning hclosed hlaw hdirection hup hdown
  have hk : k < 384 := hgrant.context_lt
  have hcfg : readCaptured (s.written b).shadow k = cfg := readCaptured_eq ..
  have hlaw' : rawLaw (s.written b).shadow k ≤ 1 := by
    have haddr : descriptor k + 8 = 0x408 + 0x40 * k := by rw [descriptor]; omega
    rw [rawLaw, field8, haddr]
    exact hlaw
  have haccepted : (s.written b).openRefusal k = none := by
    rw [State.openRefusal_eq_none_iff, State.openBadParam_eq_false_iff, State.mapFull_eq_false_iff, hcfg]
    simp only [State.written_part, State.written_ctx, State.written_win, State.written_tags, State.written_tapSet,
      State.written_claimList]
    exact ⟨hrunning, hclosed, ⟨hlaw', hdirection, fun h => ⟨(hup h).1, (hup h).2.1⟩, fun h => ⟨(hdown h).1, (hdown h).2.1⟩⟩,
      fun h => (hdown h).2.2.1, fun h => (hup h).2.2, fun h => (hdown h).2.2.2⟩
  have hexec : exec (.ctxOpen b) s = .next ((s.written b).commandOpen k tag) := hgrant.context
  have heffect := State.commandOpen_eq haccepted (by rw [State.written_ctxs]; omega) tag
  rw [hcfg] at heffect
  simp only [State.written_ctxs, State.written_ctx, State.written_tsm, State.written_tags, State.written_engine] at heffect
  refine ⟨hk, ⟨Nat.min_le_left .., Nat.min_le_left .., Nat.min_le_left .., le_max_left .., max_le (by decide) (min_le_left ..),
    Nat.min_le_left .., Nat.min_le_left ..⟩, ?_⟩
  rw [hexec, heffect]
  rfl

/-! ### MODIFY -/

/-- R100: the entries released, the others kept, and LATE counted for each. -/
theorem Context.release_eq (x : Byte) (q : Nat) (c : Context) :
    let gone := beyond x q c.playout
    c.release x q = { c with
      playout := if gone = [] then c.playout else c.playout.filter fun e => decide (e ∉ gone)
      counters := if gone = [] then c.counters else { c.counters with late := min (c.counters.late + gone.length) 65535 } } := by
  intro gone
  have hkeep : within x q c.playout = c.playout.filter fun e => decide (e ∉ gone) := by
    refine List.filter_congr fun e he => decide_eq_decide.mpr ?_
    simp [gone, beyond, he]
  have hall (h : gone = []) : c.playout.filter (fun e => decide (e ∉ gone)) = c.playout := by simp [h]
  rw [Context.release, hkeep]
  simp only [Context.late, List.length_eq_zero_iff]
  split
  · rename_i h
    rw [hall h]
  · rfl

theorem Context.modified_eq (m : Memory) (k : Nat) (c : Context) (released : List PlayEntry)
    (h : released = match c.expected with
      | none => []
      | some x => if (readAdjustable m k c.cfg).q < c.cfg.q then beyond x (readAdjustable m k c.cfg).q c.playout else []) :
    c.modified m k = { c with
      cfg := readAdjustable m k c.cfg
      playout := if released = [] then c.playout else c.playout.filter fun e => decide (e ∉ released)
      counters := if released = [] then c.counters
        else { c.counters with late := min (c.counters.late + released.length) 65535 } } := by
  obtain hx | ⟨x, hx⟩ := Option.eq_none_or_eq_some c.expected
  · have hmodified : c.modified m k = c.adjust m k := by simp only [Context.modified, hx]
    have hnone : released = [] := by simp only [h, hx]
    rw [hmodified, hnone]
    rfl
  · by_cases hq : (readAdjustable m k c.cfg).q < c.cfg.q
    · have hmodified : c.modified m k = (c.adjust m k).release x (readAdjustable m k c.cfg).q := by
        simp only [Context.modified, hx]
        exact if_pos hq
      have hgone : released = beyond x (readAdjustable m k c.cfg).q c.playout := by simp only [h, hx, if_pos hq]
      rw [hmodified, Context.release_eq, hgone]
      rfl
    · have hmodified : c.modified m k = c.adjust m k := by
        simp only [Context.modified, hx]
        exact if_neg hq
      have hnone : released = [] := by simp only [h, hx, if_neg hq]
      rw [hmodified, hnone]
      rfl

theorem State.commandModify_eq {s : State} {k : Nat} (h : s.modifyRefusal k = none) (hactive : (s.ctx k).state = .active)
    (tag : Byte) :
    s.commandModify k tag =
      ({ s.returnEach (s.modifyReleases k) with ctxs := s.ctxs.set k ((s.ctx k).modified s.shadow k) } : State).withStatus
        (descriptor k + 4) .done tag 2 1 := by
  have hfill : Refill s (s.returnEach (s.modifyReleases k)) := State.returnEach_refill ..
  have hstate : (((s.returnEach (s.modifyReleases k)).setCtx k ((s.ctx k).modified s.shadow k)).ctx k).state = .active := by
    rw [State.ctx_setCtx_self _ _ (by rw [hfill.ctxs]; exact s.lt_length_of_active hactive),
      Context.modified_eq s.shadow k (s.ctx k) _ rfl]
    exact hactive
  rw [State.commandModify_accepted h, State.modifyEffect_eq, State.ctxStatus_eq, hstate, State.setCtx, hfill.ctxs]
  rfl

/-- Settles O18. -/
theorem modifyAccepted : Obligations.ModifyAccepted := by
  intro s b k tag hgrant hlen g c byte q new released hactive hallowed
  have hnew : readAdjustable (s.written b).shadow k (s.ctx k).cfg = new := readAdjustable_eq ..
  have hreleased : (s.written b).modifyReleases k = released := by
    rw [State.modifyReleases, State.written_ctx, hnew]
    rfl
  have haccepted : (s.written b).modifyRefusal k = none := by
    refine State.modifyRefusal_eq_none ?_ ?_
    · rw [State.written_ctx]; exact hactive
    · rw [State.written_ctx, hnew]; exact hallowed
  have hmodified : (s.ctx k).modified (s.written b).shadow k = _ := Context.modified_eq _ _ _ released (by rw [hnew]; rfl)
  have hexec : exec (.ctxModify b) s = .next ((s.written b).commandModify k tag) := hgrant.context
  have heffect := State.commandModify_eq haccepted (by rw [State.written_ctx]; exact hactive) tag
  rw [hreleased, State.written_ctxs, State.written_ctx, hmodified, hnew] at heffect
  refine ⟨⟨rfl, rfl, rfl, rfl, rfl, rfl⟩, (s.written b).returnEach released, ?_, ?_, ?_⟩
  · rw [← State.written_pool s b]
    exact State.returnEach_poolPasses ..
  · rw [← State.written_pool s b]
    exact State.returnEach_free ..
  · rw [hexec, heffect]

/-! ### HANDOVER -/

theorem State.commandHandover_eq {s : State} {k : Nat} (hactive : (s.ctx k).state = .active)
    (hdownlink : (s.ctx k).cfg.downlink = true) (tag : Byte) :
    s.commandHandover k tag =
      ({ s with tsm := { s.tsm with
          claims := s.tsm.claims.set (s.ctx k).cfg.outSlot (toHead k (s.claimList (s.ctx k).cfg.outSlot)) } } : State).withStatus
        (descriptor k + 4) .done tag 3 1 := by
  have hcode : ((s.handoverEffect k).ctx k).state = .active := hactive
  rw [State.commandHandover_accepted (State.handoverRefusal_eq_none_iff.mpr ⟨hactive, hdownlink⟩), State.ctxStatus_eq, hcode]
  rfl

/-- Settles O19. -/
theorem handoverAccepted : Obligations.HandoverAccepted := by
  intro s b k tag hgrant g t hactive hdownlink hmem hnodup
  have hexec : exec (.ctxHandover b) s = .next ((s.written b).commandHandover k tag) := hgrant.context
  have hlist : toHead k (s.claimList t) = k :: (s.claimList t).erase k := by
    rw [toHead, if_pos hmem, hnodup.erase_eq_filter]
  have heffect := State.commandHandover_eq (s := s.written b) (k := k) (by rw [State.written_ctx]; exact hactive)
    (by rw [State.written_ctx]; exact hdownlink) tag
  simp only [State.written_ctx, State.written_tsm, State.written_claimList] at heffect
  rw [hexec, heffect, hlist]
  rfl

/-! ### CLOSE -/

/-- R103 steps 6 and 7: the answer of an accepted CLOSE. -/
theorem State.commandClose_of_active {s : State} {k : Nat} (tag : Byte) (hactive : (s.ctx k).state = .active) :
    s.commandClose k tag =
      if (s.ctx k).runningJobs = 0 then
        ((s.closeEffect k tag).withStatus (descriptor k + 4) .done tag 4 0).placeNotice .contextClosed k 0 (List.replicate 9 0)
      else (s.closeEffect k tag).withStatus (descriptor k + 4) .inProgress tag 4 2 := by
  have hstate : ((s.closeEffect k tag).ctx k).state = if (s.ctx k).runningJobs = 0 then .closed else .closing := by
    rw [State.closeEffect_ctx tag hactive, if_pos rfl]
    rfl
  rw [State.commandClose_accepted (State.closeRefusal_eq_none_iff.mpr hactive), State.ctxStatus_eq, State.ctxStatus_eq, hstate]
  by_cases h : (s.ctx k).runningJobs = 0
  · simp only [if_pos h, if_true]
    rfl
  · simp only [if_neg h]
    rfl

/-- Settles O20. -/
theorem closeAccepted : Obligations.CloseAccepted := by
  refine ⟨rfl, ?_⟩
  intro s b k tag hgrant hlen g c hactive
  have heffect := State.closeEffect_eq (s := s.written b) tag (by rw [State.written_ctxs]; exact hlen)
  simp only [State.written_ctxs, State.written_ctx, State.written_tsm, State.written_tags, State.written_engine] at heffect
  have hexec : exec (.ctxClose b) s = .next ((s.written b).commandClose k tag) := hgrant.context
  have hclose := State.commandClose_of_active (s := s.written b) tag (by rw [State.written_ctx]; exact hactive)
  rw [State.written_ctx, heffect] at hclose
  refine ⟨(s.written b).returnEach c.playout, ?_, ?_, ?_⟩
  · rw [← State.written_pool s b]
    exact State.returnEach_poolPasses ..
  · rw [← State.written_pool s b]
    exact State.returnEach_free ..
  · intro u
    rw [hexec, hclose]
    exact ⟨fun h => congrArg Host.Outcome.next (if_pos h), fun h => congrArg Host.Outcome.next (if_neg h)⟩

/-! ### REPORT -/

theorem State.commandReport_eq {s : State} {k : Nat} (hopen : (s.ctx k).state ≠ .closed) (tag : Byte) :
    s.commandReport k tag =
      ({ s.placeNotice .report k 0 (s.ctx k).counters.list with
        ctxs := s.ctxs.set k { s.ctx k with counters := Counters.zero } } : State).withStatus
          (descriptor k + 4) .done tag 5 (s.ctx k).state.code := by
  have hfill : Refill s (s.placeNotice .report k 0 (s.ctx k).counters.list) := State.placeNotice_refill _ _ _ _ rfl
  have hreport : s.commandReport k tag =
      ((s.placeNotice .report k 0 (s.ctx k).counters.list).count k fun _ => Counters.zero).ctxStatus k .done tag 5 := if_neg hopen
  have hstate : (((s.placeNotice .report k 0 (s.ctx k).counters.list).count k fun _ => Counters.zero).ctx k).state =
      (s.ctx k).state := by
    rw [State.count, State.ctx_modCtx_self _ _ (by rw [hfill.ctxs]; exact s.lt_length_of_state_ne hopen), hfill.ctx]
  rw [hreport, State.ctxStatus_eq, hstate, State.count, State.modCtx, hfill.ctx, State.setCtx, hfill.ctxs]

/-- Settles O21. -/
theorem reportAccepted : Obligations.ReportAccepted := by
  intro s b k tag hgrant c n hopen u
  have hexec : exec (.ctxReport b) s = .next ((s.written b).commandReport k tag) := hgrant.context
  have heffect := State.commandReport_eq (s := s.written b) (k := k) (by rw [State.written_ctx]; exact hopen) tag
  rw [State.written_ctx, State.written_ctxs] at heffect
  have hcode : c.state.code = match c.state with | .closed => 0 | .active => 1 | .closing => 2 := by cases c.state <;> rfl
  rw [hexec, heffect, show (s.ctx k).state.code = c.state.code from rfl, hcode]
  rfl

end Sys2Proof.Machine

/-! Refused context commands (R96 to R106), and what no context command touches (R92). -/
namespace Sys2Proof.Machine

/-! ### Refusals -/

section
variable {s : State} {k : Nat} {tag : Byte} {r : Result}

theorem State.commandOpen_refused (h : s.openRefusal k = some r) : s.commandOpen k tag = s.ctxStatus k r tag 1 := by
  simp only [State.commandOpen, h]

theorem State.commandModify_refused (h : s.modifyRefusal k = some r) : s.commandModify k tag = s.ctxStatus k r tag 2 := by
  simp only [State.commandModify, h]

theorem State.commandHandover_refused (h : s.handoverRefusal k = some r) : s.commandHandover k tag = s.ctxStatus k r tag 3 := by
  simp only [State.commandHandover, h]

theorem State.commandClose_refused (h : s.closeRefusal k = some r) : s.commandClose k tag = s.ctxStatus k r tag 4 := by
  simp only [State.commandClose, h]

theorem State.contextCommand_bad {code : Byte} (h : 6 ≤ code.toNat) :
    s.contextCommand k code tag = s.ctxStatus k .badCommand tag code := by
  have hne {n : Byte} (hn : n.toNat < 6) : code ≠ n := by rintro rfl; omega
  rw [State.contextCommand, if_neg (hne (by decide)), if_neg (hne (by decide)), if_neg (hne (by decide)),
    if_neg (hne (by decide)), if_neg (hne (by decide)), if_neg (hne (by decide))]
  rfl

/-- R96: the chain of the checks of an OPEN. -/
theorem State.openRefusal_of_idle (h : s.part.state = .idle) : s.openRefusal k = some .notRunning := if_pos h

section
variable (hrunning : s.part.state = .running)
include hrunning

theorem State.openRefusal_of_closing (h : (s.ctx k).state = .closing) : s.openRefusal k = some .busy := by
  rw [State.openRefusal, if_neg (by simp [hrunning]), if_pos h]

theorem State.openRefusal_of_active (h : (s.ctx k).state = .active) : s.openRefusal k = some .badState := by
  rw [State.openRefusal, if_neg (by simp [hrunning]), if_neg (by simp [h]), if_pos h]

theorem State.openRefusal_of_closed (h : (s.ctx k).state = .closed) :
    s.openRefusal k =
      if s.openBadParam k then some .badParam
      else if (readCaptured s.shadow k).downlink = true ∧ (s.lookupTag (readCaptured s.shadow k).tag).isSome = true then
        some .tagInUse
      else if s.mapFull (readCaptured s.shadow k) then some .timeslotFull
      else none := by
  rw [State.openRefusal, if_neg (by simp [hrunning]), if_neg (by simp [h]), if_neg (by simp [h])]

end

end

/-- R96 check 3. -/
theorem State.openBadParam_iff {s : State} {k : Nat} : s.openBadParam k = true ↔
    1 < rawLaw s.shadow k ∨
      ((readCaptured s.shadow k).uplink = false ∧ (readCaptured s.shadow k).downlink = false) ∨
      ((readCaptured s.shadow k).uplink = true ∧ s.win.slots ≤ (readCaptured s.shadow k).inSlot) ∨
      ((readCaptured s.shadow k).downlink = true ∧ s.win.slots ≤ (readCaptured s.shadow k).outSlot) ∨
      ((readCaptured s.shadow k).downlink = true ∧ (readCaptured s.shadow k).tag = 0) ∨
      ((readCaptured s.shadow k).uplink = true ∧ (readCaptured s.shadow k).allowed = 0) := by
  simp only [State.openBadParam, Bool.or_eq_true, Bool.and_eq_true, Bool.not_eq_true', decide_eq_true_eq, or_assoc]

theorem State.mapFull_iff {s : State} {c : Captured} : s.mapFull c = true ↔
    (c.uplink = true ∧ 3 ≤ (s.tapSet c.inSlot).length) ∨ (c.downlink = true ∧ 3 ≤ (s.claimList c.outSlot).length) := by
  simp [State.mapFull]

theorem rawLaw_eq (m : Memory) (k : Nat) : rawLaw m k = (Memory.get m (0x408 + 0x40 * k)).toNat := by
  have haddr : descriptor k + 8 = 0x408 + 0x40 * k := by rw [descriptor]; omega
  rw [rawLaw, field8, haddr]

/-- R97: the allowed set a MODIFY reads. -/
theorem readAdjustable_allowed_eq_zero {m : Memory} {k : Nat} {c : Captured}
    (h : (Memory.get m (0x412 + 0x40 * k)).toNat % 8 = 0) : (readAdjustable m k c).allowed = 0 := by
  have haddr : descriptor k + 0x12 = 0x412 + 0x40 * k := by rw [descriptor]; omega
  have hallowed : (readAdjustable m k c).allowed = (Memory.get m (descriptor k + 0x12)).setWidth 3 := rfl
  rw [hallowed, haddr]
  exact BitVec.eq_of_toNat_eq ((BitVec.toNat_setWidth ..).trans h)

/-- Settles O17. -/
theorem contextRefusals : Obligations.ContextRefusals := by
  refine ⟨rfl, ?_⟩
  intro s b k code tag hgrant g c cfg answer badParam tagInUse full
  have hexec : masterWriteAccess b s = .next ((s.written b).contextCommand k code tag) := hgrant.context
  have hanswer (r : Result) : answer r = .next ((s.written b).ctxStatus k r tag code) := by
    rw [State.ctxStatus_eq, State.written_ctx]
    simp only [answer]
    cases c.state <;> rfl
  have hctx : (s.written b).ctx k = s.ctx k := State.written_ctx ..
  have hpart : (s.written b).part = s.part := State.written_part ..
  have hbad : (s.written b).openBadParam k = true ↔ badParam := by
    rw [State.openBadParam_iff, rawLaw_eq, State.written_win]
  have htag : cfg.downlink = true ∧ ((s.written b).lookupTag cfg.tag).isSome = true ↔ tagInUse := by
    rw [State.lookupTag_isSome_iff, State.written_tags]
  have hfull : (s.written b).mapFull cfg = true ↔ full := by
    rw [State.mapFull_iff, State.written_tapSet, State.written_claimList]
  refine ⟨?_, ?_, ?_, ?_, ?_, ?_⟩
  · rintro rfl
    have hopen {r : Result} (h : (s.written b).openRefusal k = some r) : exec (.ctxOpen b) s = answer r := by
      rw [hanswer, ← State.commandOpen_refused h]
      exact hexec
    refine ⟨fun hidle => hopen (State.openRefusal_of_idle ?_), fun hrun h => hopen (State.openRefusal_of_closing ?_ ?_),
      fun hrun h => hopen (State.openRefusal_of_active ?_ ?_), fun hrun hclosed => ?_⟩
    · rwa [hpart]
    · rwa [hpart]
    · rwa [hctx]
    · rwa [hpart]
    · rwa [hctx]
    · have hclosed' := State.openRefusal_of_closed (s := s.written b) (k := k) (by rwa [hpart]) (by rwa [hctx])
      refine ⟨fun h => hopen ?_, fun h h' => hopen ?_, fun h h' h'' => hopen ?_⟩
      · rw [hclosed', if_pos (hbad.mpr h)]
      · rw [hclosed', if_neg (mt hbad.mp h), if_pos (htag.mpr h')]
      · rw [hclosed', if_neg (mt hbad.mp h), if_neg (mt htag.mp h'), if_pos (hfull.mpr h'')]
  · rintro rfl
    have hmodify {r : Result} (h : (s.written b).modifyRefusal k = some r) : exec (.ctxModify b) s = answer r := by
      rw [hanswer, ← State.commandModify_refused h]
      exact hexec
    refine ⟨fun h => hmodify ?_, fun h => hmodify ?_, fun h hup hallowed => hmodify ?_⟩
    · simp only [State.modifyRefusal, hctx, show (s.ctx k).state = .closed from h, if_true]
    · simp [State.modifyRefusal, hctx, show (s.ctx k).state = .closing from h]
    · have hzero := readAdjustable_allowed_eq_zero (c := (s.ctx k).cfg) hallowed
      have hstate : (s.ctx k).state = .active := h
      have hnone := (And.intro hup hzero : (s.ctx k).cfg.uplink = true ∧ _)
      simp only [State.modifyRefusal, hctx, hstate]
      exact if_pos hnone
  · rintro rfl
    have hhandover {r : Result} (h : (s.written b).handoverRefusal k = some r) : exec (.ctxHandover b) s = answer r := by
      rw [hanswer, ← State.commandHandover_refused h]
      exact hexec
    refine ⟨fun h => hhandover ?_, fun h => hhandover ?_, fun h hdown => hhandover ?_⟩
    · simp only [State.handoverRefusal, hctx, show (s.ctx k).state = .closed from h, if_true]
    · simp [State.handoverRefusal, hctx, show (s.ctx k).state = .closing from h]
    · simp [State.handoverRefusal, hctx, show (s.ctx k).state = .active from h, show (s.ctx k).cfg.downlink = false from hdown]
  · rintro rfl
    have hclose {r : Result} (h : (s.written b).closeRefusal k = some r) : exec (.ctxClose b) s = answer r := by
      rw [hanswer, ← State.commandClose_refused h]
      exact hexec
    refine ⟨fun h => hclose ?_, fun h => hclose ?_⟩
    · simp only [State.closeRefusal, hctx, show (s.ctx k).state = .closed from h]
    · simp only [State.closeRefusal, hctx, show (s.ctx k).state = .closing from h]
  · rintro rfl h
    have hreport : (s.written b).commandReport k tag = (s.written b).ctxStatus k .badState tag 5 := if_pos (by rwa [hctx])
    rw [hanswer, ← hreport]
    exact hexec
  · intro h
    rw [hanswer, ← State.contextCommand_bad h]
    exact hexec

/-! ### What no context command touches -/

/-- `t` differs from `s` in nothing of any context but `k`, and in none of the part's clocks, settings, memories and lanes. -/
structure Spares (k : Nat) (s t : State) : Prop where
  ctx : ∀ j, j ≠ k → t.ctx j = s.ctx j
  clocks : t.clocks = s.clocks
  part : t.part = s.part
  shadow : t.shadow = s.shadow
  ffu : t.ffu = s.ffu
  erw : t.erw = s.erw
  running : t.engine.running = s.engine.running
  entries : t.pwq.entries = s.pwq.entries
  waiting : s.pwq.waiting <+: t.pwq.waiting
  map : ∀ ts, ∀ j, j ≠ k → (j ∈ t.tapSet ts ↔ j ∈ s.tapSet ts) ∧ (j ∈ t.claimList ts ↔ j ∈ s.claimList ts)
  tags : ∀ p : Nat × Nat, p.2 ≠ k → (p ∈ t.tags ↔ p ∈ s.tags)
  jobs : ∀ j : Job, j.ctx ≠ k → (j ∈ t.engine.jobs ↔ j ∈ s.engine.jobs)
  mem : t.mem = s.mem

section
variable {s t u : State} {k : Nat}

theorem Spares.trans (h : Spares k s t) (h' : Spares k t u) : Spares k s u where
  ctx j hj := (h'.ctx j hj).trans (h.ctx j hj)
  clocks := h'.clocks.trans h.clocks
  part := h'.part.trans h.part
  shadow := h'.shadow.trans h.shadow
  ffu := h'.ffu.trans h.ffu
  erw := h'.erw.trans h.erw
  running := h'.running.trans h.running
  entries := h'.entries.trans h.entries
  waiting := h.waiting.trans h'.waiting
  map ts j hj := ⟨(h'.map ts j hj).1.trans (h.map ts j hj).1, (h'.map ts j hj).2.trans (h.map ts j hj).2⟩
  tags p hp := (h'.tags p hp).trans (h.tags p hp)
  jobs j hj := (h'.jobs j hj).trans (h.jobs j hj)
  mem := h'.mem.trans h.mem

theorem Spares.refl (s : State) : Spares k s s :=
  ⟨fun _ _ => rfl, rfl, rfl, rfl, rfl, rfl, rfl, rfl, List.prefix_rfl, fun _ _ _ => ⟨.rfl, .rfl⟩, fun _ _ => .rfl, fun _ _ => .rfl, rfl⟩

theorem Spares.requestGroup (s : State) (g : Group) : Spares k s (s.requestGroup g) :=
  { Spares.refl s with waiting := List.prefix_append .. }

theorem Refill.spares (h : Refill s u) : Spares k s u := by
  obtain ⟨gs, hgroups, -⟩ := h.groups
  rw [h.frame]
  exact { Spares.refl s with waiting := hgroups ▸ List.prefix_append .. }

theorem Spares.setCtx (s : State) (k : Nat) (c : Context) : Spares k s (s.setCtx k c) :=
  { Spares.refl s with ctx := fun _ hj => s.ctx_setCtx_of_ne c hj }

/-- One list of a collection changed in nothing but one member. -/
theorem mem_getD_set {lists : List (List Nat)} {i j : Nat} {l : List Nat} (h : j ∈ l ↔ j ∈ lists.getD i []) (ts : Nat) :
    j ∈ (lists.set i l).getD ts [] ↔ j ∈ lists.getD ts [] := by
  rw [List.getD_eq_getElem?_getD, List.getElem?_set]
  split
  · rename_i hi
    subst hi
    split
    · exact h
    · rename_i hout
      rw [List.getD_eq_default _ _ (by omega)]
      rfl
  · rw [List.getD_eq_getElem?_getD]

theorem Spares.withTsm (s : State) (m : Tsm)
    (h : ∀ ts j, j ≠ k → (j ∈ m.taps.getD ts [] ↔ j ∈ s.tapSet ts) ∧ (j ∈ m.claims.getD ts [] ↔ j ∈ s.claimList ts)) :
    Spares k s { s with tsm := m } := { Spares.refl s with map := h }

theorem Tsm.mem_join (m : Tsm) (cfg : Captured) (ts : Nat) {j : Nat} (hj : j ≠ k) :
    (j ∈ (m.join k cfg).taps.getD ts [] ↔ j ∈ m.taps.getD ts []) ∧
      (j ∈ (m.join k cfg).claims.getD ts [] ↔ j ∈ m.claims.getD ts []) := by
  have hjoin (l : List Nat) : j ∈ l ++ [k] ↔ j ∈ l := by simp [hj]
  refine ⟨?_, ?_⟩
  · rw [Tsm.join]
    dsimp only
    split
    · exact mem_getD_set (hjoin _) ts
    · exact .rfl
  · rw [Tsm.join]
    dsimp only
    split
    · exact mem_getD_set (hjoin _) ts
    · exact .rfl

theorem Tsm.mem_leave (m : Tsm) (cfg : Captured) (ts : Nat) {j : Nat} (hj : j ≠ k) :
    (j ∈ (m.leave k cfg).taps.getD ts [] ↔ j ∈ m.taps.getD ts []) ∧
      (j ∈ (m.leave k cfg).claims.getD ts [] ↔ j ∈ m.claims.getD ts []) := by
  have hleave (l : List Nat) : j ∈ l.filter (· != k) ↔ j ∈ l := by simp [hj]
  refine ⟨?_, ?_⟩
  · rw [Tsm.leave]
    dsimp only
    split
    · exact mem_getD_set (hleave _) ts
    · exact .rfl
  · rw [Tsm.leave]
    dsimp only
    split
    · exact mem_getD_set (hleave _) ts
    · exact .rfl

theorem mem_toHead {j : Nat} {l : List Nat} (hj : j ≠ k) : j ∈ toHead k l ↔ j ∈ l := by
  unfold toHead
  split
  · simp [hj]
  · rfl

theorem Spares.openEffect (s : State) (k : Nat) : Spares k s (s.openEffect k) := by
  rw [State.openEffect_eq]
  refine { Spares.setCtx s k _ with
    map := fun ts j hj => Tsm.mem_join s.tsm _ ts hj, tags := fun p hp => ?_, jobs := fun j hj => ?_ }
  · dsimp only [State.withRecords]
    split
    · have hne : p ≠ ((readCaptured s.shadow k).tag, k) := by rintro rfl; exact hp rfl
      simp [hne]
    · rfl
  · dsimp only [State.withRecords]
    split
    · have hne : j ≠ Job.mk k .decode := by rintro rfl; exact hj rfl
      simp [hne]
    · rfl

theorem Spares.closeEffect (tag : Byte) (hactive : (s.ctx k).state = .active) : Spares k s (s.closeEffect k tag) := by
  rw [State.closeEffect_eq tag (s.lt_length_of_active hactive)]
  have hfill : Spares k s (s.returnEach (s.ctx k).playout) := (s.returnEach_refill _).spares
  have hctx := (Spares.setCtx s k ((s.ctx k).closedBy tag)).ctx
  exact { hfill with
    ctx := hctx
    running := rfl
    map := fun ts j hj => Tsm.mem_leave s.tsm _ ts hj
    tags := fun p hp => by simp [State.withRecords, hp]
    jobs := fun j hj => by simp [State.withRecords, Engine.withdrawAll, hj] }

theorem Spares.modifyEffect (s : State) (k : Nat) : Spares k s (s.modifyEffect k) := by
  rw [State.modifyEffect_eq]
  exact (s.returnEach_refill _).spares.trans (Spares.setCtx _ k _)

theorem Spares.handoverEffect (s : State) (k : Nat) : Spares k s (s.handoverEffect k) :=
  Spares.withTsm s _ fun ts _ hj => ⟨.rfl, mem_getD_set (mem_toHead hj) ts⟩

theorem Spares.contextCommand (s : State) (k : Nat) (code tag : Byte) : Spares k s (s.contextCommand k code tag) := by
  have hstatus (u : State) (r : Result) (c : Byte) : Spares k u (u.ctxStatus k r tag c) := Spares.requestGroup u _
  unfold State.contextCommand
  split_ifs
  · exact Spares.refl s
  · unfold State.commandOpen
    split
    · exact hstatus ..
    · exact (Spares.openEffect s k).trans (hstatus ..)
  · unfold State.commandModify
    split
    · exact hstatus ..
    · exact (Spares.modifyEffect s k).trans (hstatus ..)
  · unfold State.commandHandover
    split
    · exact hstatus ..
    · exact (Spares.handoverEffect s k).trans (hstatus ..)
  · unfold State.commandClose
    split
    · exact hstatus ..
    · rename_i hnone
      have hclose : Spares k s (s.closeEffect k tag) := Spares.closeEffect tag (State.closeRefusal_eq_none_iff.mp hnone)
      dsimp only
      split
      · exact (hclose.trans (hstatus ..)).trans (State.placeNotice_refill _ _ _ _ rfl).spares
      · exact hclose.trans (hstatus ..)
  · unfold State.commandReport
    split
    · exact hstatus ..
    · exact ((State.placeNotice_refill _ _ _ _ rfl).spares.trans (Spares.setCtx _ k _)).trans (hstatus ..)
  · exact hstatus ..

end

/-! ### The command word a write includes (R74) -/

theorem commandWordAt_control : commandWordAt 0 = some .control := rfl

theorem commandWordAt_context {k : Nat} (hk : k < 384) : commandWordAt (0x400 + 0x40 * k) = some (.context k) := by
  rw [commandWordAt, if_neg (by omega), if_pos (by omega), Nat.add_sub_cancel_left, Nat.mul_div_cancel_left _ (by decide)]

theorem commandWordAt_eq_none {off : Nat} (h : ¬ (off = 0 ∨ ∃ k < 384, off = 0x400 + 0x40 * k)) :
    commandWordAt off = none := by
  obtain ⟨hzero, hword⟩ := not_or.mp h
  rw [commandWordAt, if_neg hzero, if_neg]
  rintro ⟨hlow, hhigh, hmod⟩
  exact hword ⟨(off - 0x400) / 0x40, by omega, by omega⟩

/-- The one command word among the offsets of a write is the one it includes. -/
theorem includedCommand_of_mem {offs : List (Nat × Byte)} {c : Nat × Byte} {w : CommandWord} (hc : c ∈ offs)
    (hw : commandWordAt c.1 = some w) (hone : ∀ d ∈ offs, commandWordAt d.1 = none ∨ d.1 = c.1) :
    includedCommand offs = some w := by
  have hany (d : Nat × Byte) (hd : d ∈ offs) : commandWordAt d.1 = none ∨ commandWordAt d.1 = some w :=
    (hone d hd).imp_right fun h => by rw [h, hw]
  rw [includedCommand]
  cases hfind : offs.findSome? fun d => commandWordAt d.1 with
  | none =>
    rw [List.findSome?_eq_none_iff] at hfind
    rw [hfind c hc] at hw
    cases hw
  | some w' =>
    obtain ⟨d, hd, hdw⟩ := List.exists_of_findSome?_eq_some hfind
    obtain hnone | hsome := hany d hd
    · rw [hnone] at hdw; cases hdw
    · rw [← hdw, hsome]

theorem Memory.get_put_of_ne (m : Memory) {x y : Nat} (v : Byte) (h : x ≠ y) :
    Memory.get (Memory.put m x v) y = Memory.get m y := by
  induction m with
  | nil => simp only [Memory.put]; split <;> simp [Memory.get, h]
  | cons c rest ih =>
    simp only [Memory.put]
    split_ifs with _ _ hx
    · rfl
    · simp [Memory.get, h]
    · simp [Memory.get, ← hx, h]
    · simp [Memory.get, ← hx, h]
    · simp only [Memory.get, ih]

theorem Memory.get_putAll_of_outside (m : Memory) {cells : List (Nat × Byte)} {a : Nat} (h : ∀ c ∈ cells, c.1 ≠ a) :
    Memory.get (Memory.putAll m cells) a = Memory.get m a := by
  induction cells generalizing m with
  | nil => rfl
  | cons c cells ih =>
    rw [List.forall_mem_cons] at h
    exact (ih _ h.2).trans (Memory.get_put_of_ne m c.2 h.1)

/-- Settles O22. -/
theorem otherContextsKept : Obligations.OtherContextsKept := by
  refine ⟨fun offs => ⟨fun h => ?_, fun c hc hone => ?_⟩, fun _ _ => rfl, fun s b k code tag hgrant i hi => ?_⟩
  · rw [includedCommand, List.findSome?_eq_none_iff]
    exact fun c hc => commandWordAt_eq_none (h c hc)
  · have hother (d : Nat × Byte) (hd : d ∈ offs) : commandWordAt d.1 = none ∨ d.1 = c.1 := by
      by_cases hword : d.1 = 0 ∨ ∃ k < 384, d.1 = 0x400 + 0x40 * k
      · exact .inr (hone d hd hword)
      · exact .inl (commandWordAt_eq_none hword)
    refine ⟨fun h => includedCommand_of_mem hc (by rw [h, commandWordAt_control]) hother, fun k hk h => ?_⟩
    exact includedCommand_of_mem hc (by rw [h, commandWordAt_context hk]) hother
  · have hrow : i ∈ writeRows b := by
      simp only [List.mem_cons, List.not_mem_nil, or_false] at hi
      simp only [writeRows, List.mem_cons]
      tauto
    have hkeep := Spares.contextCommand (s.written b) k code tag
    refine ⟨_, (exec_writeRow hrow s).trans hgrant.context, ?_⟩
    generalize (s.written b).contextCommand k code tag = t at hkeep
    refine ⟨fun j hj => (hkeep.ctx j hj).trans (State.written_ctx ..), hkeep.clocks.trans (State.written_clocks ..),
      hkeep.part.trans (State.written_part ..), hkeep.shadow, hkeep.ffu.trans (State.written_ffu ..),
      hkeep.erw.trans (State.written_erw ..), ?_, hkeep.entries, ?_, fun ts j hj => ?_, fun p hp => ?_, fun j hj => ?_, ?_⟩
    · rw [hkeep.running, State.written_engine]
    · rw [← State.written_waiting s b]
      exact hkeep.waiting
    · rw [← State.written_tapSet s b, ← State.written_claimList s b]
      exact hkeep.map ts j hj
    · rw [hkeep.tags p hp, State.written_tags]
    · rw [hkeep.jobs j hj, State.written_engine]
    · intro a ha
      rw [hkeep.mem]
      exact Memory.get_putAll_of_outside (s.mem) fun c hc => cellAt_eq_none_iff.mp ha c (List.mem_filter.mp hc).1

end Sys2Proof.Machine

/-! The control area (R73 to R75) and the control commands (R173 to R177). -/
namespace Sys2Proof.Machine

/-! ### The shadow (R73) -/

section
variable {s : State} {b : WriteBurst} {cells : List (Nat × Byte)}

theorem burst_above_control (h : s.areaOf b.addr.toNat = .control) : ∀ c ∈ burstCells b, s.controlBase ≤ c.1 := by
  have hbase : s.controlBase ≤ b.addr.toNat := by
    by_contra hlow
    have hout : ¬ (s.controlBase ≤ b.addr.toNat ∧ b.addr.toNat < s.controlBase + 32768) := fun h => hlow h.1
    rw [State.areaOf, if_neg (mt inArea_iff.mp hout)] at h
    split_ifs at h
  exact fun c hc => hbase.trans ((wordCells_rising _ _).2 c hc).1

theorem State.cellAt_controlCells (h : ∀ c ∈ cells, s.controlBase ≤ c.1) (off : Nat) :
    cellAt (s.controlCells cells) off = cellAt cells (s.controlBase + off) := by
  induction cells with
  | nil => rfl
  | cons c cells ih =>
    obtain ⟨hc, hrest⟩ := List.forall_mem_cons.mp h
    have hcons : s.controlCells (c :: cells) = (c.1 - s.controlBase, c.2) :: s.controlCells cells := rfl
    rw [hcons, cellAt_cons, cellAt_cons, ih hrest]
    simp only [show (c.1 - s.controlBase = off) ↔ (c.1 = s.controlBase + off) by omega]

theorem State.distinct_controlCells (h : ∀ c ∈ cells, s.controlBase ≤ c.1) (hcells : DistinctCells cells) :
    DistinctCells (s.controlCells cells) := by
  have hmap : (s.controlCells cells).map (·.1) = (cells.map (·.1)).map (· - s.controlBase) := by
    simp [State.controlCells]
  rw [DistinctCells, hmap]
  refine List.Nodup.map_on (fun x hx y hy hxy => ?_) hcells
  obtain ⟨c, hc, rfl⟩ := List.mem_map.mp hx
  obtain ⟨d, hd, rfl⟩ := List.mem_map.mp hy
  have := h c hc
  have := h d hd
  omega

/-- R73: a byte of the shadow is the write's where the write enables it. -/
theorem State.get_written_shadow (hm : Memory.wf s.shadow = true) (harea : s.areaOf b.addr.toNat = .control) (off : Nat) :
    Memory.get (s.written b).shadow off = (cellAt (burstCells b) (s.controlBase + off)).getD (Memory.get s.shadow off) := by
  have hbase := burst_above_control harea
  rw [← State.cellAt_controlCells hbase]
  exact Memory.get_putAll hm (State.distinct_controlCells hbase (distinctCells_burst b)) off

/-- R74: a code of 0 runs no command. -/
theorem State.runCommand_of_zero {w : CommandWord} (h : Memory.get s.shadow w.offset = 0) : s.runCommand w = s := by
  cases w with
  | control => exact if_pos h
  | context k => exact if_pos h

theorem touchesWord_iff {offs : List (Nat × Byte)} {off : Nat} :
    touchesWord offs off = true ↔ ∃ c ∈ offs, off ≤ c.1 ∧ c.1 < off + 4 := by
  simp [touchesWord]

theorem touchesWord_eq_false {offs : List (Nat × Byte)} {off : Nat} (h : ∀ c ∈ offs, ¬ (off ≤ c.1 ∧ c.1 < off + 4)) :
    touchesWord offs off = false := by
  rw [← Bool.not_eq_true, touchesWord_iff]
  rintro ⟨c, hc, hoff⟩
  exact h c hc hoff

/-- R75: a write of neither consumer word, or in IDLE, is handed to no writer. -/
theorem State.consumerWrites_of_untouched {offs : List (Nat × Byte)} (h : s.part.state = .running →
    ∀ c ∈ offs, ¬ (0x34 ≤ c.1 ∧ c.1 < 0x38) ∧ ¬ (0x3C ≤ c.1 ∧ c.1 < 0x40)) : s.consumerWrites offs = s := by
  by_cases hrun : s.part.state = .running
  · have hegress : touchesWord offs 0x34 = false := touchesWord_eq_false fun c hc => (h hrun c hc).1
    have hnotice : touchesWord offs 0x3C = false := touchesWord_eq_false fun c hc => (h hrun c hc).2
    rw [State.consumerWrites, if_pos hrun, hegress, hnotice]
    rfl
  · exact if_neg hrun

end

/-- Settles O14. -/
theorem shadowWrite : Obligations.ShadowWrite := by
  intro s b hb hturn hmem harea offs hquiet
  have hgrant : s.grantWrite b = s.written b := by
    rw [State.grantWrite_of_control harea]
    rcases hquiet with ⟨hnone, huntouched⟩ | ⟨w, hw, hzero⟩
    · rw [hnone]
      exact State.consumerWrites_of_untouched (by rwa [State.written_part])
    · rw [hw]
      exact State.runCommand_of_zero hzero
  have hwrote : WroteThrough s (s.written b) (burstCells b) :=
    .of_writeThrough hmem.1 (distinctCells_burst b) rfl rfl rfl rfl
  have hbase := burst_above_control harea
  refine ⟨s.written b, ?_, rfl, hwrote.entries, hwrote.superseded, fun a v hv => ⟨?_, hwrote.wrote a v hv⟩, hwrote.beyond,
    fun off hoff => ?_, hwrote.kept⟩
  · rw [exec_masterWrite_of_turn (by simp [writeRows]) hb hturn, hgrant]
  · have ha : s.controlBase ≤ a := by
      by_contra hlow
      have hnone : cellAt (burstCells b) a = none :=
        cellAt_eq_none_iff.mpr fun c hc hca => hlow (hca ▸ hbase c hc)
      rw [hnone] at hv
      cases hv
    rw [State.get_written_shadow hmem.2 harea, show s.controlBase + (a - s.controlBase) = a by omega, hv]
    rfl
  · rw [State.get_written_shadow hmem.2 harea, hoff]
    rfl

/-! ### Consumer words (R75) -/

/-- The egress ring writer after an egress consumer write in RUNNING (R163, R164). -/
def State.consumedErw (s : State) : Erw :=
  let consumer := field16 s.shadow 0x34 % s.win.ne
  let count := (s.erw.producer + s.win.ne - consumer) % s.win.ne
  let latch := match s.part.readyMode with
    | .level => s.erw.latch
    | .burst => readyLatch count s.part.threshold s.erw.latch
  { s.erw with
    consumer := consumer, latch := latch
    ready := match s.part.readyMode with
      | .level => decide (1 ≤ count)
      | .burst => latch }

/-- The notice writer after a notice consumer write in RUNNING (R168 to R170). -/
def State.consumedNtw (s : State) : Ntw :=
  let notices := field16 s.shadow 0x3C % s.win.nn
  { s.ntw with
    consumer := notices, timer := 0, latch := false
    event := decide (s.part.trigger ≤ (s.ntw.producer + s.win.nn - notices) % s.win.nn) }

section
variable {s : State} {offs : List (Nat × Byte)} (h : s.part.state = .running)
include h

theorem State.egressConsumer_of_running : s.egressConsumer = { s with erw := s.consumedErw } := by
  unfold State.egressConsumer State.examineReady State.consumedErw
  cases hmode : s.part.readyMode with
  | level =>
    simp only [h, decide_true, Bool.true_and]
    rfl
  | burst =>
    simp only [h, decide_true, Bool.true_and]
    rfl

theorem State.noticeConsumer_of_running : s.noticeConsumer = { s with ntw := s.consumedNtw } := by
  unfold State.noticeConsumer State.examineEvent
  simp only [h, decide_true, Bool.true_and, Bool.or_false]
  rfl

theorem State.consumerWrites_egress (hegress : touchesWord offs 0x34 = true) (hnotice : touchesWord offs 0x3C = false) :
    s.consumerWrites offs = { s with erw := s.consumedErw } := by
  simp only [State.consumerWrites, if_pos h, hegress, hnotice, if_true, State.egressConsumer_of_running h]
  rfl

theorem State.consumerWrites_notice (hegress : touchesWord offs 0x34 = false) (hnotice : touchesWord offs 0x3C = true) :
    s.consumerWrites offs = { s with ntw := s.consumedNtw } := by
  simp only [State.consumerWrites, if_pos h, hegress, hnotice, Bool.false_eq_true, if_false, if_true,
    State.noticeConsumer_of_running h]

theorem State.consumerWrites_both (hegress : touchesWord offs 0x34 = true) (hnotice : touchesWord offs 0x3C = true) :
    s.consumerWrites offs = { s with erw := s.consumedErw, ntw := s.consumedNtw } := by
  have hboth := State.noticeConsumer_of_running (s := { s with erw := s.consumedErw }) h
  simp only [State.consumerWrites, if_pos h, hegress, hnotice, if_true, State.egressConsumer_of_running h]
  exact hboth

end

/-- Settles O15. -/
theorem consumerWrites : Obligations.ConsumerWrites := by
  intro s b hb hturn harea hrun offs hnone g word consumer count latch erw notices ntw egress notice
  have hexec {i : Instr} (hi : i ∈ writeRows b) : exec i s = .next (g.consumerWrites offs) := by
    rw [exec_masterWrite_of_turn hi hb hturn, State.grantWrite_of_control harea, hnone]
  have hrun' : (s.written b).part.state = .running := by rwa [State.written_part]
  have herw : (s.written b).consumedErw = erw := by
    simp only [State.consumedErw, State.written_part, State.written_erw, State.written_win]
    rfl
  have hntw : (s.written b).consumedNtw = ntw := by
    simp only [State.consumedNtw, State.written_part, State.written_ntw, State.written_win]
    rfl
  have hyes {off : Nat} (h : ∃ c ∈ offs, off ≤ c.1 ∧ c.1 < off + 4) : touchesWord offs off = true := touchesWord_iff.mpr h
  have hno {off : Nat} (h : ¬ ∃ c ∈ offs, off ≤ c.1 ∧ c.1 < off + 4) : touchesWord offs off = false := by
    rwa [← Bool.not_eq_true, touchesWord_iff]
  have hrows : Instr.egressConsumerWrite b ∈ writeRows b ∧ Instr.noticeConsumerWrite b ∈ writeRows b := by simp [writeRows]
  rw [hexec hrows.1, hexec hrows.2, ← herw, ← hntw]
  refine ⟨fun he hn => ?_, fun hn he => ?_, fun he hn => ?_⟩
  · rw [State.consumerWrites_egress hrun' (hyes he) (hno hn)]
  · rw [State.consumerWrites_notice hrun' (hno he) (hyes hn)]
  · rw [State.consumerWrites_both hrun' (hyes he) (hyes hn)]
    exact ⟨rfl, rfl⟩

/-! ### Status words of control commands (R173) -/

section
variable {s : State} {tag : Byte}

theorem State.ctlStatus_eq (r : Result) (code : Byte) :
    s.ctlStatus r tag code = s.withStatus 4 r tag code s.part.state.code := rfl

/-! ### START (R174, R175) -/

theorem apart_iff {x y : Nat × Nat} : apart x y = true ↔ x.1 + x.2 ≤ y.1 ∨ y.1 + y.2 ≤ x.1 := by simp [apart]

theorem allApart_iff {areas : List (Nat × Nat)} :
    allApart areas = true ↔ areas.Pairwise (fun x y => x.1 + x.2 ≤ y.1 ∨ y.1 + y.2 ≤ x.1) := by
  induction areas with
  | nil => exact iff_of_true rfl .nil
  | cons x rest ih => simp only [allApart, Bool.and_eq_true, List.all_eq_true, apart_iff, ih, List.pairwise_cons]

theorem State.layoutOk_iff {w : Windows} : s.layoutOk w = true ↔
    (w.slots % 32 = 0 ∧ 32 ≤ w.slots ∧ w.slots ≤ 512 ∧ 8 ≤ w.frames ∧ w.frames ≤ 64 ∧ 2 ≤ w.ni ∧ w.ni ≤ 4096 ∧
      2 ≤ w.ne ∧ w.ne ≤ 4096 ∧ 2 ≤ w.nn ∧ w.nn ≤ 4096) ∧
    (w.ingressBase % 32 = 0 ∧ w.egressBase % 32 = 0 ∧ w.noticeBase % 32 = 0 ∧ w.mobInBase % 128 = 0 ∧
      w.mobOutBase % 128 = 0) ∧
    (∀ r ∈ w.rings, r.1 + r.2 ≤ s.memBytes) ∧
    ((s.controlBase, 32768) :: w.rings).Pairwise (fun x y => x.1 + x.2 ≤ y.1 ∨ y.1 + y.2 ≤ x.1) := by
  simp only [State.layoutOk, Bool.and_eq_true, Windows.rangesOk_iff, Windows.aligned, decide_eq_true_eq, List.all_eq_true,
    allApart_iff, and_assoc]

theorem State.commandStart_accepted (hidle : s.part.state = .idle) (hlayout : s.layoutOk (readWindows s.shadow) = true) :
    s.commandStart tag = s.startEffect.ctlStatus .done tag 1 := by
  have hnone : s.startRefusal = none := by rw [State.startRefusal, if_neg (by simp [hidle]), if_pos hlayout]
  simp only [State.commandStart, hnone]

/-- R164: with nothing unconsumed and the latch clear READY is deasserted. -/
theorem State.examineReady_of_empty (hcount : s.erw.producer = s.erw.consumer) (hlatch : s.erw.latch = false)
    (h : 0 < s.part.threshold) : s.examineReady = { s with erw := { s.erw with latch := false, ready := false } } := by
  have hcount : s.egressCount = 0 := by simp [State.egressCount, hcount]
  have hthreshold : ¬ s.part.threshold ≤ 0 := by omega
  unfold State.examineReady
  split
  · simp [hcount, ← hlatch]
  · simp [hcount, readyLatch, hthreshold]

/-- R170: with nothing unconsumed and the latch clear EVENT is deasserted. -/
theorem State.examineEvent_of_empty (hcount : s.ntw.producer = s.ntw.consumer) (hlatch : s.ntw.latch = false)
    (h : 0 < s.part.trigger) : s.examineEvent = { s with ntw := { s.ntw with event := false } } := by
  have hcount : s.noticeCount = 0 := by simp [State.noticeCount, hcount]
  have htrigger : ¬ s.part.trigger ≤ 0 := by omega
  simp [State.examineEvent, hcount, hlatch, htrigger]

/-- R175: nothing is unconsumed yet, so that both lines are left deasserted. -/
theorem State.startEffect_started (h : 2 ≤ (readWindows s.shadow).ne) :
    s.startEffect = { s with
      part := s.startedPart
      clocks := { inPos := 0, inFrame := 0, frameNo := 0, outPos := 0, outFrame := 0 }
      erw := { producer := 0, waiting := s.erw.waiting, consumer := 0, latch := false, ready := false }
      ntw := { producer := 0, consumer := 0, waiting := s.ntw.waiting, lost := false, timer := 0, latch := false,
               event := false }
      pwq := { s.pwq with waiting := s.pwq.waiting ++ [s.indexResetGroup] } } := by
  have hthreshold : 0 < s.startedPart.threshold := by
    simp only [State.startedPart]
    omega
  have htrigger : 0 < s.startedPart.trigger := by
    simp only [State.startedPart]
    omega
  unfold State.startEffect
  dsimp only
  rw [State.examineReady_of_empty rfl rfl (by exact hthreshold),
    State.examineEvent_of_empty rfl rfl (by exact htrigger)]
  rfl

/-- R175: the settings START takes, by their places in the control block. -/
theorem State.startedPart_eq :
    let byteAt off := (Memory.get s.shadow off).toNat
    s.startedPart = { s.part with
      state := .running, windows := some (readWindows s.shadow), trigger := max 1 (byteAt 0x2C), quietLimit := byteAt 0x2D
      readyMode := if byteAt 0x2E % 2 = 1 then .burst else .level
      threshold := min ((readWindows s.shadow).ne - 1) (max 1 (byteAt 0x2F)) } := by
  intro byteAt
  simp only [State.startedPart, fieldBit_eq, Nat.pow_zero, Nat.div_one, decide_eq_true_eq]
  rfl

theorem State.commandStart_eq (hidle : s.part.state = .idle) (hlayout : s.layoutOk (readWindows s.shadow) = true) :
    s.commandStart tag = { s with
      part := s.startedPart
      clocks := { inPos := 0, inFrame := 0, frameNo := 0, outPos := 0, outFrame := 0 }
      erw := { producer := 0, waiting := s.erw.waiting, consumer := 0, latch := false, ready := false }
      ntw := { producer := 0, consumer := 0, waiting := s.ntw.waiting, lost := false, timer := 0, latch := false,
               event := false }
      pwq := { s.pwq with waiting := s.pwq.waiting ++
        [s.indexResetGroup, .status { addr := s.controlBase + 4, lanes := fullWord 1 tag 1 1 }] } } := by
  have hne : 2 ≤ (readWindows s.shadow).ne := by
    obtain ⟨-, -, -, -, -, -, -, hne, -⟩ := (State.layoutOk_iff.mp hlayout).1
    exact hne
  rw [State.commandStart_accepted hidle hlayout, State.startEffect_started hne, State.ctlStatus_eq, State.withStatus]
  simp only [List.append_assoc, List.cons_append, List.nil_append]
  rfl

end

/-- Settles O23. -/
theorem startAccepted : Obligations.StartAccepted := by
  intro s b tag hgrant hidle g byteAt word base w rings zero reset hranges haligned hends hapart
  have hexec : exec (.ctlStart b) s = .next ((s.written b).commandStart tag) := hgrant.control
  have hlayout : (s.written b).layoutOk (readWindows (s.written b).shadow) = true :=
    State.layoutOk_iff.mpr ⟨hranges, haligned, hends, hapart⟩
  have hstart := State.commandStart_eq (tag := tag) (by rwa [State.written_part]) hlayout
  rw [State.startedPart_eq, State.written_part, State.written_erw, State.written_ntw, State.written_waiting] at hstart
  rw [hexec, hstart]
  rfl

/-! ### Refusals (R173, R174, R176) -/

section
variable {s : State} {tag : Byte}

theorem State.commandStart_refused {r : Result} (h : s.startRefusal = some r) :
    s.commandStart tag = s.withStatus 4 r tag 1 s.part.state.code := by
  simp only [State.commandStart, h]
  rfl

theorem State.commandStop_refused {r : Result} (h : s.stopRefusal = some r) :
    s.commandStop tag = s.withStatus 4 r tag 2 s.part.state.code := by
  simp only [State.commandStop, h]
  rfl

theorem State.controlCommand_bad {code : Byte} (h : 4 ≤ code.toNat) :
    s.controlCommand code tag = s.withStatus 4 .badCommand tag code s.part.state.code := by
  have hne {n : Byte} (hn : n.toNat < 4) : code ≠ n := by rintro rfl; omega
  rw [State.controlCommand, if_neg (hne (by decide)), if_neg (hne (by decide)), if_neg (hne (by decide)),
    if_neg (hne (by decide))]
  rfl

end

/-- Settles O24. -/
theorem controlRefusals : Obligations.ControlRefusals := by
  refine ⟨rfl, ?_⟩
  intro s b code tag hgrant g w answer rings
  have hexec : masterWriteAccess b s = .next ((s.written b).controlCommand code tag) := hgrant.control
  have hanswer (r : Result) : answer r = .next ((s.written b).withStatus 4 r tag code (s.written b).part.state.code) := by
    rw [State.written_part]
    simp only [answer]
    cases s.part.state <;> rfl
  refine ⟨?_, ?_, fun h => ?_⟩
  · rintro rfl
    have hstart {r : Result} (h : (s.written b).startRefusal = some r) : exec (.ctlStart b) s = answer r := by
      rw [hanswer, ← State.commandStart_refused h]
      exact hexec
    refine ⟨fun hrun => hstart ?_, fun hidle hbad => hstart ?_⟩
    · rw [State.startRefusal, State.written_part, if_pos hrun]
    · have hlayout : ¬ (s.written b).layoutOk w = true := by
        rw [State.layoutOk_iff]
        rintro ⟨hranges, haligned, hends, hapart⟩
        rcases hbad with h | h | ⟨r, hr, h⟩ | h
        · omega
        · omega
        · have := hends r hr
          have hsize : (s.written b).memBytes = 16777216 * 2 ^ min s.part.memSize.toNat 4 := rfl
          omega
        · exact h hapart
      rw [State.startRefusal, State.written_part, if_neg (by simp [hidle]), if_neg hlayout]
  · rintro rfl
    have hstop {r : Result} (h : (s.written b).stopRefusal = some r) : exec (.ctlStop b) s = answer r := by
      rw [hanswer, ← State.commandStop_refused h]
      exact hexec
    refine ⟨fun hidle => hstop ?_, fun hrun hopen => hstop ?_⟩
    · rw [State.stopRefusal, State.written_part, if_pos hidle]
    · rw [State.stopRefusal, State.written_part, State.written_ctxs, if_neg (by simp [hrun]), if_neg (by simpa using hopen)]
  · rw [hanswer, ← State.controlCommand_bad h]
    exact hexec

/-! ### STOP and CLEAR (R176, R177) -/

section
variable {s : State} {tag : Byte}

theorem State.commandStop_eq (hrun : s.part.state = .running) (hclosed : ∀ c ∈ s.ctxs, c.state = .closed) :
    s.commandStop tag = { s.withStatus 4 .done tag 2 0 with
      part := { s.part with state := .idle }
      ffu := { queue := [], buffer := none, overrun := false }
      erw := { s.erw with ready := false }
      ntw := { s.ntw with event := false } } := by
  have hnone : s.stopRefusal = none := by
    rw [State.stopRefusal, if_neg (by simp [hrun]), if_pos (by simpa using hclosed)]
  simp only [State.commandStop, hnone]
  rfl

theorem survivesClear_eq : Group.survivesClear = fun w => !w.isEgress := by
  funext w
  cases w <;> rfl

theorem State.commandClear_eq (s : State) (tag : Byte) :
    s.commandClear tag = { s with
      part := { s.part with state := .idle }
      ffu := { queue := [], buffer := none, overrun := false }
      engine := { jobs := [], running := [] }
      tsm := { taps := List.replicate 512 [], claims := List.replicate 512 [] }
      tags := []
      pool := { free := 4096, low := false }
      ctxs := s.ctxs.map Context.atClear
      erw := { s.erw with waiting := 0, ready := false }
      ntw := { s.ntw with event := false }
      pwq := { s.pwq with waiting := s.pwq.waiting.filter (fun w => !w.isEgress) ++
        [.status { addr := s.controlBase + 4, lanes := fullWord 1 tag 3 0 }] } } := by
  rw [← survivesClear_eq]
  rfl

end

/-- Settles O25. -/
theorem stopAndClear : Obligations.StopAndClear := by
  refine ⟨?_, ?_⟩
  · intro s b tag hgrant hrun hclosed g
    have hexec : exec (.ctlStop b) s = .next ((s.written b).commandStop tag) := hgrant.control
    have hstop := State.commandStop_eq (tag := tag) (s := s.written b) (by rwa [State.written_part])
      (by rwa [State.written_ctxs])
    simp only [State.written_part, State.written_erw, State.written_ntw] at hstop
    rw [hexec, hstop]
  · intro s b tag hgrant g
    have hexec : exec (.ctlClear b) s = .next ((s.written b).commandClear tag) := hgrant.control
    have hclear := State.commandClear_eq (s.written b) tag
    simp only [State.written_part, State.written_erw, State.written_ntw, State.written_ctxs, State.written_waiting] at hclear
    rw [hexec, hclear]
    rfl

end Sys2Proof.Machine

/-! The notice ring (R165 to R167), a flip (R67), and what becomes of the head of the order of waiting groups (R152, R162). -/
namespace Sys2Proof.Machine

/-! ### Notice requests -/

section
variable {s t : State} {kind : NoticeKind} {ctx detail : Nat} {l : List Nat}

theorem State.placeNotice_pwq_congr (hpart : t.part = s.part) (hclocks : t.clocks = s.clocks) (hntw : t.ntw = s.ntw)
    (hpwq : t.pwq = s.pwq) : (t.placeNotice kind ctx detail l).pwq = (s.placeNotice kind ctx detail l).pwq := by
  simp only [State.placeNotice, State.win_congr hpart, State.indexWord, State.controlBase_congr hpart, hntw, hclocks,
    apply_ite State.pwq, State.requestGroup, hpwq]

/-- R167: with room in the ring the record and the producer word join the order. -/
theorem State.placeNotice_of_room (h : ¬ (s.ntw.producer + s.ntw.waiting + 1) % s.win.nn = s.ntw.consumer) :
    let slot := (s.ntw.producer + s.ntw.waiting) % s.win.nn
    s.placeNotice kind ctx detail l = { s with
      ntw := { s.ntw with lost := false, waiting := s.ntw.waiting + 1 }
      pwq := { s.pwq with waiting := s.pwq.waiting ++ [.notice
        (((groupOrder (noticeBytes kind s.ntw.lost ctx s.clocks.frameNo s.clocks.inPos l detail)).map fun w =>
          { addr := s.win.noticeBase + 32 * slot + 4 * w.1, lanes := w.2 }) ++
          [s.indexWord 0x38 ((slot + 1) % s.win.nn)])] } } := if_neg h

end

/-- R166, R182: the words of a record, word 0 last. -/
theorem groupOrder_noticeBytes (kind : NoticeKind) (lost : Bool) (ctx : Nat) (frameNo : BitVec 16) (pos : Nat)
    (counters : List Nat) (detail : Nat) (h : counters.length = 9) :
    let count (i : Nat) := counters.getD i 0
    let pair (m n : Nat) := fullWord (byte0 m) (byte1 m) (byte0 n) (byte1 n)
    groupOrder (noticeBytes kind lost ctx frameNo pos counters detail) =
      [(1, fullWord (byte0 frameNo.toNat) (byte1 frameNo.toNat) (byte0 pos) 0), (2, pair (count 0) (count 1)),
        (3, pair (count 2) (count 3)), (4, pair (count 4) (count 5)), (5, pair (count 6) (count 7)), (6, pair (count 8) detail),
        (7, fullWord 0 0 0 0), (0, fullWord kind.code (if lost then 1 else 0) (byte0 ctx) (byte1 ctx))] := by
  match counters, h with
  | [_, _, _, _, _, _, _, _, _], _ => rfl

/-- Settles O40. -/
theorem noticeRing : Obligations.NoticeRing := by
  refine ⟨rfl, fun s kind ctx detail counters hcounters => ?_, fun s k detail hk => ⟨rfl, rfl, rfl, rfl⟩⟩
  intro slot next full t low high pair count
  refine ⟨fun h => if_pos h, fun h => ?_⟩
  have hplaced : t = _ := State.placeNotice_of_room h
  rw [hplaced, groupOrder_noticeBytes _ _ _ _ _ _ _ hcounters]
  rfl

/-! ### A flip -/

section
variable {s : State} {k : Nat}

theorem State.flip_engine (hk : k < s.ctxs.length) :
    (s.flip k).engine = { s.engine with jobs := s.engine.jobs.filter (· != Job.mk k .encode) ++ [Job.mk k .encode] } := by
  have hflip : (s.flip k).engine =
    { (s.missUplink k).engine with jobs := (s.missUplink k).engine.jobs ++ [Job.mk k .encode] } := rfl
  rw [hflip, (State.missUplink_records hk).1]

theorem State.missUplink_ctx (hk : k < s.ctxs.length) (i : Nat) :
    (s.missUplink k).ctx i =
      if i = k ∧ Job.mk k .encode ∈ s.engine.jobs then (s.ctx k).missed else s.ctx i := by
  have hctx : (s.missUplink k).ctx i = (if Job.mk k .encode ∈ s.engine.jobs then s.modCtx k Context.missed else s).ctx i := by
    simp only [State.ctx, (State.missUplink_records hk).2]
  rw [hctx]
  by_cases hpending : Job.mk k .encode ∈ s.engine.jobs
  · rw [if_pos hpending, State.modCtx, State.ctx_setCtx]
    simp only [hk, hpending, and_true]
  · rw [if_neg hpending, if_neg fun h => hpending h.2]

theorem State.missUplink_length : (s.missUplink k).ctxs.length = s.ctxs.length := by
  have hflip := State.flip_length s k
  simpa [State.flip, State.requestJob, State.modCtx, State.setCtx_length] using hflip

theorem State.flip_ctx (hk : k < s.ctxs.length) (i : Nat) :
    (s.flip k).ctx i =
      if i = k then (if Job.mk k .encode ∈ s.engine.jobs then (s.ctx k).missed else s.ctx k).flipHalves else s.ctx i := by
  rw [State.flip, State.ctx_requestJob, State.modCtx, State.ctx_setCtx, State.missUplink_length]
  simp only [hk, and_true, State.missUplink_ctx hk, true_and]
  split
  · rfl
  · rename_i hi
    rw [if_neg fun h => hi h.1]

/-- R67, R165: a flip requests no notice where it misses no frame, or one that is flagged already. -/
theorem State.flip_quiet (hk : k < s.ctxs.length)
    (h : Job.mk k .encode ∉ s.engine.jobs ∨ (s.ctx k).edges.uplinkMissed = true) :
    (s.flip k).pwq = s.pwq ∧ (s.flip k).ntw = s.ntw := by
  have hflip : (s.flip k).pwq = (s.missUplink k).pwq ∧ (s.flip k).ntw = (s.missUplink k).ntw := ⟨rfl, rfl⟩
  rw [hflip.1, hflip.2]
  by_cases hpending : Job.mk k .encode ∈ s.engine.jobs
  · rw [State.missUplink_of_flagged hpending hk (h.resolve_left (not_not.mpr hpending))]
    exact ⟨rfl, rfl⟩
  · rw [State.missUplink_of_absent hpending]
    exact ⟨rfl, rfl⟩

theorem State.flip_notified (hk : k < s.ctxs.length) (hpending : Job.mk k .encode ∈ s.engine.jobs)
    (hflag : (s.ctx k).edges.uplinkMissed = false) :
    let u := s.placeNotice .uplinkMissed k (s.ctx k).fullHalf.seq.toNat noCounters
    (s.flip k).pwq = u.pwq ∧ (s.flip k).ntw = u.ntw := by
  intro u
  have hflip : (s.flip k).pwq = (s.missUplink k).pwq ∧ (s.flip k).ntw = (s.missUplink k).ntw := ⟨rfl, rfl⟩
  rw [hflip.1, hflip.2, State.missUplink_of_unflagged hpending hk hflag]
  exact ⟨State.placeNotice_pwq_congr rfl rfl rfl rfl, State.placeNotice_ntw_congr rfl rfl⟩

end

/-- Settles O10. -/
theorem flipHalves : Obligations.FlipHalves := by
  intro s k hk c t missed
  have hjobs : t.engine.jobs = s.engine.jobs.filter (· != Job.mk k .encode) ++ [Job.mk k .encode] :=
    congrArg Engine.jobs (State.flip_engine hk)
  have hmissed : missed = true ↔ Job.mk k .encode ∈ s.engine.jobs := decide_eq_true_iff
  refine ⟨?_, fun j hj => ?_, ?_, fun i hi => ?_, ?_, fun h => ?_, fun h => ?_⟩
  · rw [State.pendingCount, hjobs, List.count_append, List.count_eq_zero_of_not_mem (by simp), List.count_singleton_self]
  · have hnone : List.count j [Job.mk k .encode] = 0 := List.count_eq_zero_of_not_mem (by simpa using hj)
    rw [hjobs, List.count_append, List.count_filter (by simpa using hj), hnone]
    rfl
  · rw [show t.engine = _ from State.flip_engine hk]
  · rw [State.flip_ctx hk, if_neg hi]
  · rw [State.flip_ctx hk, if_pos rfl]
    by_cases hpending : Job.mk k .encode ∈ s.engine.jobs
    · rw [if_pos hpending, if_pos (hmissed.mpr hpending), if_pos (hmissed.mpr hpending), Context.flipHalves]
      cases hfill : (s.ctx k).fillingOne <;> simp [c, hfill, Context.missed, satInc]
    · rw [if_neg hpending, if_neg (mt hmissed.mp hpending), if_neg (mt hmissed.mp hpending), Context.flipHalves]
      cases (s.ctx k).fillingOne <;> rfl
  · exact State.flip_quiet hk (h.imp_left fun hno hpending => by simp [hmissed.mpr hpending] at hno)
  · have hseq : (s.ctx k).fullHalf.seq.toNat = if c.fillingOne then c.half0.seq.toNat else c.half1.seq.toNat := by
      rw [Context.fullHalf, apply_ite Half.seq, apply_ite BitVec.toNat]
    rw [← hseq]
    exact State.flip_notified hk (hmissed.mp h.1) h.2

/-! ### The end of a drain (R104) -/

section
variable {s : State} {k : Nat} {kind : JobKind}

theorem State.drainEnd_of_more (h : 2 ≤ (s.ctx k).runningJobs) :
    (s.freeLane k kind).drainEnd k = { s with
      engine := { s.engine with running := s.engine.running.filter fun r => decide (r.job ≠ Job.mk k kind) }
      ctxs := s.ctxs.set k { s.ctx k with runningJobs := (s.ctx k).runningJobs - 1 } } := by
  have hfreed : (s.ctx k).freed = { s.ctx k with runningJobs := (s.ctx k).runningJobs - 1 } := by
    rw [Context.freed, if_neg (by omega)]
  rw [State.freeLane_drainEnd, if_neg (by omega), State.freed, hfreed]

theorem State.drainEnd_of_last (hclosing : (s.ctx k).state = .closing) (h : (s.ctx k).runningJobs = 1) :
    (s.freeLane k kind).drainEnd k =
      (({ s with
        engine := { s.engine with running := s.engine.running.filter fun r => decide (r.job ≠ Job.mk k kind) }
        ctxs := s.ctxs.set k { s.ctx k with runningJobs := 0, state := .closed } } : State).withStatus
          (descriptor k + 4) .done (s.ctx k).closeTag (s.ctx k).closeCode 0).placeNotice .contextClosed k 0
            (List.replicate 9 0) := by
  have hk : k < s.ctxs.length := s.lt_length_of_state_ne (by simp [hclosing])
  have hfreed : (s.ctx k).freed = { s.ctx k with runningJobs := 0, state := .closed } := by
    rw [Context.freed, if_pos ⟨hclosing, by omega⟩, h]
  have hstate : ((s.freed k kind).ctx k).state = .closed := by
    have hctx : (s.freed k kind).ctx k = (s.ctx k).freed := s.ctx_setCtx_self _ hk
    rw [hctx, hfreed]
  rw [State.freeLane_drainEnd, if_pos ⟨hclosing, by omega⟩, State.ctxStatus_eq, hstate, State.freed, hfreed]
  rfl

end

/-! ### The head of the order of waiting groups (R152, R162) -/

section
variable {s : State} {g : Group} {rest : List Group}

theorem State.dueStep_of_fit (hw : s.pwq.waiting = g :: rest) (hopen : s.groupClosing g = false)
    (hfit : s.pwq.entries.length + g.size ≤ 64) : s.dueStep = some .admission := by
  have hdue : s.dueGroup = some .admission := by simp [State.dueGroup, hw, hopen, hfit]
  simp only [State.dueStep, hdue]

theorem State.dueStep_of_closing (hw : s.pwq.waiting = g :: rest) (hclosing : s.groupClosing g = true) :
    s.dueStep = some .discard := by
  have hdue : s.dueGroup = some .discard := by simp [State.dueGroup, hw, hclosing]
  simp only [State.dueStep, hdue]

theorem State.dueStep_admission (h : s.dueStep = some .admission) (hw : s.pwq.waiting = g :: rest) :
    s.groupClosing g = false ∧ s.pwq.entries.length + g.size ≤ 64 := by
  obtain ⟨g', rest', hw', ⟨h, -⟩ | ⟨-, hopen, hfit⟩⟩ | ⟨h, -⟩ | ⟨j, h, -⟩ := State.dueStep_cases h
  · cases h
  · rw [hw] at hw'
    cases hw'
    exact ⟨hopen, hfit⟩
  · cases h
  · cases h

theorem State.dueStep_discard (h : s.dueStep = some .discard) (hw : s.pwq.waiting = g :: rest) :
    s.groupClosing g = true := by
  obtain ⟨g', rest', hw', ⟨-, hclosing⟩ | ⟨h, -⟩⟩ | ⟨h, -⟩ | ⟨j, h, -⟩ := State.dueStep_cases h
  · rw [hw] at hw'
    cases hw'
    exact hclosing
  · cases h
  · cases h
  · cases h

/-- R164 in both modes. -/
theorem State.examineReady_eq (s : State) :
    let latch := match s.part.readyMode with
      | .level => s.erw.latch
      | .burst => readyLatch s.egressCount s.part.threshold s.erw.latch
    s.examineReady = { s with erw := { s.erw with
      latch := latch
      ready := match s.part.readyMode with
        | .level => decide (s.part.state = .running) && decide (1 ≤ s.egressCount)
        | .burst => decide (s.part.state = .running) && latch } } := by
  unfold State.examineReady
  cases s.part.readyMode <;> rfl

/-- R152: every admission moves the head's words, in their order, to the queue's tail. -/
theorem State.enterHead_pwq (hw : s.pwq.waiting = g :: rest) (hopen : s.groupClosing g = false) :
    s.enterHead.pwq = { entries := s.pwq.entries ++ s.groupWords g, waiting := rest } := by
  cases g with
  | egress k slot ws =>
    rw [State.enterHead_of_egress hw (State.groupClosing_eq_false_iff.mp hopen k slot ws rfl), State.examineReady_erw]
    rfl
  | notice ws => simp only [State.enterHead, hw]; rfl
  | status w => simp only [State.enterHead, hw]; rfl
  | indexReset ws => simp only [State.enterHead, hw]; rfl

end

theorem exec_groupAdmission_of_due {s : State} (h : s.dueStep = some .admission) :
    exec .groupAdmission s = .next s.enterHead := by
  simp [exec, execGroupAdmission, h]

theorem exec_groupDiscard_of_due {s : State} (h : s.dueStep = some .discard) :
    exec .groupDiscard s = .next s.discardHead := by
  simp [exec, execGroupDiscard, h]

/-- Settles O37. -/
theorem groupAdmission : Obligations.GroupAdmission := by
  refine ⟨fun s g rest hw hopen hfit => State.dueStep_of_fit hw (State.groupClosing_eq_false_iff.mpr hopen) hfit,
    fun s g rest hdue hw => ?_⟩
  obtain ⟨hopen, hfit⟩ := State.dueStep_admission hdue hw
  have hpwq := State.enterHead_pwq hw hopen
  refine ⟨hfit, s.enterHead, exec_groupAdmission_of_due hdue, ?_, ?_, ?_, ?_, ?_, ?_, ?_⟩
  · rw [hpwq]
  · rw [hpwq]
    exact List.prefix_append ..
  · rw [hpwq, List.length_append, State.length_groupWords]
  · rintro w rfl
    simp only [State.enterHead, hw]
    rfl
  · rintro ws rfl
    simp only [State.enterHead, hw]
    rfl
  · rintro ws rfl
    simp only [State.enterHead, hw]
    rfl
  · rintro k slot ws rfl hk hactive
    have htold : (s.ctx k).told.freed = { s.ctx k with
        runningJobs := (s.ctx k).runningJobs - 1
        counters := { (s.ctx k).counters with sent := min ((s.ctx k).counters.sent + 1) 65535 }
        edges := { (s.ctx k).edges with egressFull := false, uplinkMissed := false } } := by
      rw [Context.freed_of_ne (by simp [Context.told, hactive])]
      simp only [Context.told, if_pos hactive]
      rfl
    have hctxs : (s.modCtx k Context.told).ctxs.set k ((s.modCtx k Context.told).ctx k).freed = s.ctxs.set k (s.ctx k).told.freed := by
      rw [s.ctx_modCtx_self _ hk]
      exact List.set_set ..
    have hfreed : ({ (s.modCtx k Context.told).entered (.egress k slot ws) rest with erw := s.advancedErw } : State).freed k .encode = { s with
        pwq := { entries := s.pwq.entries ++ s.groupWords (.egress k slot ws), waiting := rest }
        ctxs := s.ctxs.set k (s.ctx k).told.freed
        engine := { s.engine with running := s.engine.running.filter fun r => decide (r.job ≠ Job.mk k .encode) }
        erw := s.advancedErw } := by
      rw [← hctxs]
      rfl
    rw [State.enterHead_of_egress hw (by simp [hactive]), hfreed, htold, State.examineReady_eq]
    simp only [State.groupWords, List.append_assoc]
    rfl

/-- Settles O38. -/
theorem groupDiscard : Obligations.GroupDiscard := by
  refine ⟨fun s k slot ws rest hw hclosing => State.dueStep_of_closing hw (by simpa [State.groupClosing] using hclosing),
    fun s k slot ws rest hdue hw hk => ?_⟩
  have hclosing : (s.ctx k).state = .closing := by simpa [State.groupClosing] using State.dueStep_discard hdue hw
  intro c moved u
  have hmoved : rest.map (Group.moveBack s.win.ne) = moved :=
    List.map_congr_left fun g _ => by cases g <;> rfl
  have hdiscard : s.discardHead = ({ s with
      pwq := { s.pwq with waiting := moved }, erw := { s.erw with waiting := s.erw.waiting - 1 } } : State).completeEncode k := by
    simp only [State.discardHead, hw, hmoved]
  rw [exec_groupDiscard_of_due hdue, hdiscard, State.completeEncode_of_not_active (by exact hclosing ▸ nofun)]
  refine ⟨hclosing, fun h => ?_, fun h => ?_⟩
  · rw [State.drainEnd_of_more (by exact h)]
    rfl
  · rw [State.drainEnd_of_last (by exact hclosing) (by exact h)]
    rfl

end Sys2Proof.Machine

/-! The ends of work of the two kinds of jobs (R137, R138, R140, R141), and what their work computes. -/
namespace Sys2Proof.Machine

/-! ### What a decode job computes (R140) -/

section
variable {j : DecodeJob}

/-- R31: 160 samples of comfort noise, compressed. -/
theorem compressed_comfortNoise (law : Law) (level : Nat) (g : BitVec 16) :
    (comfortNoise level 160 g).1.map (compress law) = (List.range 160).map fun i =>
      compress law ((genStep^[i + 1] g).toInt * ((4 + level % 4) * 2 ^ (level / 4) : Nat) / 32768) := by
  rw [(comfortNoise_eq level 160 g).2, List.map_map]
  rfl

theorem decodeWork_sid {e : PlayEntry} (htaken : j.taken = some e) (htype : e.type = .sid) :
    decodeWork j = decodeSidFrame j.law j.dec e := by
  simp only [decodeWork, htaken, if_pos htype]

theorem decodeWork_comfort (htaken : j.taken = none) (hstate : j.dec.state = .comfort) :
    decodeWork j = decodeHeldNoise j.law j.dec := by
  simp only [decodeWork, htaken, hstate]

theorem decodeWork_normal (htaken : j.taken = none) (hstate : j.dec.state = .normal) :
    decodeWork j = conceal j.law j.p j.dec := by
  simp only [decodeWork, htaken, hstate]

theorem decodeWork_initial (htaken : j.taken = none) (hstate : j.dec.state = .initial) :
    decodeWork j = decodeInitial j.law j.dec := by
  simp only [decodeWork, htaken, hstate]

theorem decodeSpeechFrame_dec (law : Law) (d : DecFields) (e : PlayEntry) :
    let out := decodeSpeech e.type (if e.onset then 0 else d.recon) e.body
    (decodeSpeechFrame law d e).dec =
      { d with recon := out.getLastD 0, loss := 0, state := .normal, latest := if e.request = 0 then d.latest else e.request } := by
  intro out
  have hne : out ≠ [] := by
    rw [← List.length_pos_iff, length_decodeSpeech]
    decide
  rw [decodeSpeechFrame, getLastD_of_ne_nil hne d.recon 0]
  rfl

/-- R34: the fading copy of P, and its last code. -/
theorem conceal_eq (law : Law) {p : List Byte} (hp : p.length = 160) (d : DecFields) :
    let loss := min (d.loss + 1) 4
    let codes := if loss = 4 then List.replicate 160 (silence law) else p.map fun code => compress law (expand law code / 2)
    conceal law p d =
      { codes := codes, dec := { d with loss := loss, recon := expand law (codes.getD 159 0) }, concealed := true } := by
  intro loss codes
  have hhalf : attenuate law 1 = fun code => compress law (expand law code / 2) :=
    funext fun code => attenuate_pos (Nat.le_refl 1) law code
  have hlength : codes.length = 160 := by
    simp only [codes]
    split
    · exact List.length_replicate ..
    · rw [List.length_map, hp]
  have hlast : codes.getLastD (silence law) = codes.getD 159 0 := by
    have hne : codes ≠ [] := by
      rw [← List.length_pos_iff, hlength]
      decide
    rw [getLastD_of_ne_nil hne _ 0, List.getLastD_eq_getLast?, List.getLast?_eq_getElem?, hlength, List.getD_eq_getElem?_getD]
  rw [conceal, hhalf]
  refine Eq.trans ?_ (congrArg (fun y => DecodeResult.mk codes { d with loss := loss, recon := expand law y } true) hlast)
  rfl

end

/-! ### The completion of a decode job (R141) -/

section
variable {s : State} {k : Nat}

theorem exec_decodeJobCompletion_of_settled (h : s.settled) :
    exec (.decodeJobCompletion k) s = .next (s.decodeEnd k) := by
  have hexec : exec (.decodeJobCompletion k) s = .next (s.settle.decodeEnd k) := rfl
  rw [hexec, State.settle_of_settled h]

theorem State.decodeEnd_of_active {j : DecodeJob} (hj : s.runningDecode k = some j) (h : (s.ctx k).state = .active) :
    s.decodeEnd k = { s with
      engine := { s.engine with running := s.engine.running.filter fun r => decide (r.job ≠ Job.mk k .decode) }
      ctxs := s.ctxs.set k { (s.ctx k).takeDecoded (decodeWork j) with runningJobs := (s.ctx k).runningJobs - 1 } } := by
  simp only [State.decodeEnd, hj, if_pos h, State.freeLane_modCtx]
  rfl

theorem State.decodeEnd_of_not_active {j : DecodeJob} (hj : s.runningDecode k = some j) (h : (s.ctx k).state ≠ .active) :
    s.decodeEnd k = (s.freeLane k .decode).drainEnd k := by
  simp only [State.decodeEnd, hj, if_neg h]

theorem State.runningDecode_ne_none {j : DecodeJob} (hj : Running.decode j ∈ s.engine.running) (hctx : j.ctx = k) :
    s.runningDecode k ≠ none := by
  intro hnone
  have := List.findSome?_eq_none_iff.mp hnone _ hj
  simp [hctx] at this

end

/-- Settles O36. -/
theorem decodeJobCompletion : Obligations.DecodeJobCompletion := by
  refine ⟨fun s k => ⟨fun j => State.runningDecode_some, fun j => State.runningDecode_ne_none⟩,
    fun s k j hs hk hj => ?_, fun j => ?_⟩
  · intro c r freed
    rw [exec_decodeJobCompletion_of_settled hs]
    refine ⟨fun hactive => ?_, fun hclosing hne hne' => ?_, fun hclosing hone => ?_⟩
    · rw [State.decodeEnd_of_active hj hactive]
      rfl
    · rw [State.decodeEnd_of_not_active hj (hclosing ▸ nofun), State.drainEnd_of_more (show 2 ≤ c.runningJobs by omega)]
    · rw [State.decodeEnd_of_not_active hj (hclosing ▸ nofun), State.drainEnd_of_last hclosing hone]
  · intro r d latest noise
    refine ⟨fun e htaken htype => ?_, fun e htaken htype => ?_, fun htaken hstate => ?_, fun htaken hstate hp => ?_,
      fun htaken hstate => ?_⟩
    · have hr : r = decodeSpeechFrame j.law j.dec e := decodeWork_speech htaken htype
      rw [hr]
      exact ⟨length_decodeSpeech .., rfl, rfl, decodeSpeechFrame_dec ..⟩
    · have hr : r = decodeSidFrame j.law j.dec e := decodeWork_sid htaken htype
      rw [hr]
      refine ⟨compressed_comfortNoise .., rfl, ?_⟩
      rw [decodeSidFrame, (comfortNoise_eq _ _ _).1]
      rfl
    · have hr : r = decodeHeldNoise j.law j.dec := decodeWork_comfort htaken hstate
      rw [hr]
      refine ⟨compressed_comfortNoise .., rfl, ?_⟩
      rw [decodeHeldNoise, (comfortNoise_eq _ _ _).1]
    · have hr : r = conceal j.law j.p j.dec := decodeWork_normal htaken hstate
      rw [hr, conceal_eq j.law hp]
      exact ⟨rfl, rfl, rfl⟩
    · have hr : r = decodeInitial j.law j.dec := decodeWork_initial htaken hstate
      rw [hr]
      exact ⟨rfl, rfl, rfl⟩

/-! ### What an encode job computes (R136) -/

theorem dtxStep_eq (h : Nat) (active : Bool) (d : DtxState) :
    dtxStep h active d = match d, active with
      | .speech, true => (.speech, .speech false)
      | .hangover _, true => (.speech, .speech false)
      | .silent _, true => (.speech, .speech true)
      | .speech, false => if h = 0 then (.silent 7, .sid) else (.hangover h, .speech false)
      | .hangover c, false => if c = 0 then (.silent 7, .sid) else (.hangover (c - 1), .speech false)
      | .silent n, false => if n = 0 then (.silent 7, .sid) else (.silent (n - 1), .nodata) := by
  cases d <;> cases active <;> rfl

theorem getLastD_eq_getD {l : List Int} (h : l.length = 160) (x : Int) : l.getLastD x = l.getD 159 0 := by
  have hne : l ≠ [] := by
    rw [← List.length_pos_iff, h]
    decide
  rw [getLastD_of_ne_nil hne x 0, List.getLastD_eq_getLast?, List.getLast?_eq_getElem?, h, List.getD_eq_getElem?_getD]

section
variable {j : EncodeJob} {dtx : DtxState} {kind : FrameKind}

theorem encodeWork_speech {onset : Bool} (h : dtxStep j.hangover (frameActive j) j.enc.dtx = (dtx, .speech onset)) :
    encodeWork j = encodeSpeechFrame j dtx onset := by simp only [encodeWork, h]

theorem encodeWork_sid (h : dtxStep j.hangover (frameActive j) j.enc.dtx = (dtx, .sid)) :
    encodeWork j = encodeSidFrame j dtx := by simp only [encodeWork, h]

theorem encodeWork_nodata (h : dtxStep j.hangover (frameActive j) j.enc.dtx = (dtx, .nodata)) :
    encodeWork j = { enc := { j.enc with dtx := dtx }, frame := none } := by simp only [encodeWork, h]

theorem encodeWork_dtx (h : dtxStep j.hangover (frameActive j) j.enc.dtx = (dtx, kind)) : (encodeWork j).enc.dtx = dtx := by
  cases kind with
  | speech onset => rw [encodeWork_speech h]; rfl
  | sid => rw [encodeWork_sid h]; rfl
  | nodata => rw [encodeWork_nodata h]

end

/-! ### The words of an egress slot (R161, R182) -/

/-- Word `i` of a slot, the last one filled with 0. -/
def wordOf (bytes : List Byte) (i : Nat) : Lanes :=
  fullWord (bytes.getD (4 * i) 0) (bytes.getD (4 * i + 1) 0) (bytes.getD (4 * i + 2) 0) (bytes.getD (4 * i + 3) 0)

theorem bytesToWords_eq (bytes : List Byte) :
    bytesToWords bytes = (List.range ((bytes.length + 3) / 4)).map (wordOf bytes) := by
  induction bytes using bytesToWords.induct with
  | case1 | case2 | case3 | case4 => simp [bytesToWords, wordOf]
  | case5 a b c d rest ih =>
    have hlength : ((a :: b :: c :: d :: rest).length + 3) / 4 = (rest.length + 3) / 4 + 1 := by
      simp only [List.length_cons]
      omega
    rw [bytesToWords, ih, hlength, List.range_succ_eq_map, List.map_cons, List.map_map]
    rfl

theorem indexed_map (m n : Nat) (f : Nat → Lanes) :
    indexed n ((List.range m).map f) = (List.range m).map fun i => (n + i, f i) := by
  induction m generalizing n f with
  | zero => rfl
  | succ m ih =>
    rw [List.range_succ_eq_map, List.map_cons, List.map_map, indexed, ih, List.map_cons, List.map_map]
    refine congrArg _ (List.map_congr_left fun i _ => ?_)
    simp only [Function.comp_apply, Nat.succ_eq_add_one]
    rw [show n + 1 + i = n + (i + 1) by omega]

theorem groupOrder_eq {bytes : List Byte} (h : bytes ≠ []) :
    groupOrder bytes =
      ((List.range ((bytes.length + 3) / 4 - 1)).map fun i => (i + 1, wordOf bytes (i + 1))) ++ [(0, wordOf bytes 0)] := by
  have hlength : (bytes.length + 3) / 4 = ((bytes.length + 3) / 4 - 1) + 1 := by
    have := List.length_pos_iff.mpr h
    omega
  rw [groupOrder, bytesToWords_eq, indexed_map, hlength, List.range_succ_eq_map, List.map_cons, List.map_map]
  simp only [Nat.add_sub_cancel, Nat.zero_add]
  rfl

/-! ### The end of work of an encode job (R137, R138, R160) -/

section
variable {s : State} {k : Nat} {j : EncodeJob}

theorem exec_encodeEndOfWork_of_settled (h : s.settled) : exec (.encodeEndOfWork k) s = .next (s.encodeEnd k) := by
  have hexec : exec (.encodeEndOfWork k) s = .next (s.settle.encodeEnd k) := rfl
  rw [hexec, State.settle_of_settled h]

theorem State.workingEncode_ne_none (hj : Running.encode j ∈ s.engine.running) (hctx : j.ctx = k)
    (hwaiting : j.waiting = false) : s.workingEncode k ≠ none := by
  intro hnone
  have := List.findSome?_eq_none_iff.mp hnone _ hj
  simp [hctx, hwaiting] at this

/-- R137: the record once an encode job's results are taken. -/
def Context.encodedBy (j : EncodeJob) (c : Context) : Context :=
  { c with enc := (encodeWork j).enc, counters := { c.counters with encoded := satInc c.counters.encoded } }

theorem State.encodeEnd_of_active (hj : s.workingEncode k = some j) (h : (s.ctx k).state = .active) :
    s.encodeEnd k = match (encodeWork j).frame with
      | none => (s.modCtx k (Context.encodedBy j)).completeEncode k
      | some f => (s.modCtx k (Context.encodedBy j)).handOff j f := by
  simp only [State.encodeEnd, hj, if_pos h]
  cases (encodeWork j).frame <;> rfl

theorem State.encodeEnd_of_closing (hj : s.workingEncode k = some j) (h : (s.ctx k).state = .closing) :
    s.encodeEnd k = (s.freeLane k .encode).drainEnd k := by
  simp only [State.encodeEnd, hj, h]
  exact State.completeEncode_of_not_active (h ▸ nofun)

/-- R138: the record once an encode job of an ACTIVE context completes. -/
def Context.completed (c : Context) : Context :=
  { c with runningJobs := c.runningJobs - 1, edges := { c.edges with uplinkMissed := false } }

theorem State.completeEncode_eq (h : (s.ctx k).state = .active) :
    s.completeEncode k = { s with
      engine := { s.engine with running := s.engine.running.filter fun r => decide (r.job ≠ Job.mk k .encode) }
      ctxs := s.ctxs.set k (s.ctx k).completed } := by
  have hctx : (s.setEdges k fun e => { e with uplinkMissed := false }).ctx k =
      { s.ctx k with edges := { (s.ctx k).edges with uplinkMissed := false } } :=
    s.ctx_modCtx_self (fun c => { c with edges := { c.edges with uplinkMissed := false } }) (s.lt_length_of_active h)
  rw [State.completeEncode_of_active h, State.freed, hctx, Context.freed_of_ne (by simp [h]), State.setEdges, State.modCtx,
    State.setCtx, List.set_set]
  rfl

/-- The same after a change of the record that leaves the context ACTIVE. -/
theorem State.completeEncode_modCtx {f : Context → Context} (hk : k < s.ctxs.length) (h : (f (s.ctx k)).state = .active) :
    (s.modCtx k f).completeEncode k = { s with
      engine := { s.engine with running := s.engine.running.filter fun r => decide (r.job ≠ Job.mk k .encode) }
      ctxs := s.ctxs.set k (f (s.ctx k)).completed } := by
  have hctx := s.ctx_modCtx_self f hk
  rw [State.completeEncode_eq (by rw [hctx, h]), hctx, State.modCtx, State.setCtx, List.set_set]

/-- The record once the edge flag of EGRESS_FULL stands (R108). -/
def Context.flagFull (c : Context) : Context := { c with edges := { c.edges with egressFull := true } }

theorem State.placeNotice_with (s : State) (kind : NoticeKind) (ctx detail : Nat) (l : List Nat) :
    s.placeNotice kind ctx detail l = { s with
      pwq := (s.placeNotice kind ctx detail l).pwq, ntw := (s.placeNotice kind ctx detail l).ntw } := by
  simp only [State.placeNotice]
  split <;> rfl

/-- R160, R165: the notice of a frame dropped for a full ring, gated by its edge flag. -/
theorem State.noticeEgressFull_eq (s : State) (k detail : Nat) : ∃ pwq ntw,
    s.noticeEgressFull k detail =
        { s.modCtx k Context.flagFull with pwq := pwq, ntw := ntw } ∧
      ((s.ctx k).edges.egressFull = true → pwq = s.pwq ∧ ntw = s.ntw) ∧
      ((s.ctx k).edges.egressFull = false → pwq = (s.placeNotice .egressFull k detail (List.replicate 9 0)).pwq ∧
        ntw = (s.placeNotice .egressFull k detail (List.replicate 9 0)).ntw) := by
  cases hflag : (s.ctx k).edges.egressFull with
  | true =>
    have hctx : (s.ctx k).flagFull = s.ctx k := by rw [Context.flagFull, ← hflag]
    have hself : s.modCtx k Context.flagFull = s := State.modCtx_eq_self s hctx
    refine ⟨s.pwq, s.ntw, ?_, fun _ => ⟨rfl, rfl⟩, nofun⟩
    rw [hself]
    exact if_pos hflag
  | false =>
    have hplaced : s.noticeEgressFull k detail =
        (s.modCtx k Context.flagFull).placeNotice .egressFull k detail (List.replicate 9 0) := if_neg (by simp [hflag])
    rw [hplaced]
    exact ⟨_, _, State.placeNotice_with .., nofun, fun _ => ⟨State.placeNotice_modCtx_pwq .., State.placeNotice_modCtx_ntw ..⟩⟩

/-- R160: the record once a frame is dropped for a full ring. -/
def Context.dropFrame (c : Context) : Context :=
  { c with counters := { c.counters with egressDropped := satInc c.counters.egressDropped } }

/-- R160: what the end of work of an encode job leaves where the ring is full. -/
theorem State.handOff_of_full {f : Frame} (hk : k < s.ctxs.length) (hjk : j.ctx = k) (hactive : (s.ctx k).state = .active)
    (hfull : (s.erw.producer + s.erw.waiting + 1) % s.win.ne = s.erw.consumer) : ∃ pwq ntw,
    (s.modCtx k (Context.encodedBy j)).handOff j f = { s with
        engine := { s.engine with running := s.engine.running.filter fun r => decide (r.job ≠ Job.mk k .encode) }
        ctxs := s.ctxs.set k (((s.ctx k).encodedBy j).dropFrame.flagFull).completed
        pwq := pwq, ntw := ntw } ∧
      ((s.ctx k).edges.egressFull = true → pwq = s.pwq ∧ ntw = s.ntw) ∧
      ((s.ctx k).edges.egressFull = false → pwq = (s.placeNotice .egressFull k f.seq.toNat (List.replicate 9 0)).pwq ∧
        ntw = (s.placeNotice .egressFull k f.seq.toNat (List.replicate 9 0)).ntw) := by
  subst hjk
  let y := s.modCtx j.ctx (Context.dropFrame ∘ Context.encodedBy j)
  have hy : (y.ctx j.ctx).edges = (s.ctx j.ctx).edges := by
    rw [s.ctx_modCtx_self _ hk]
    rfl
  have hhand : (s.modCtx j.ctx (Context.encodedBy j)).handOff j f =
      (y.noticeEgressFull j.ctx f.seq.toNat).completeEncode j.ctx := by
    have hcount : (s.modCtx j.ctx (Context.encodedBy j)).modCtx j.ctx Context.dropFrame = y := State.modCtx_comp ..
    rw [← hcount]
    exact if_pos (decide_eq_true hfull)
  obtain ⟨pwq, ntw, heq, hyes, hno⟩ := y.noticeEgressFull_eq j.ctx f.seq.toNat
  rw [hy] at hyes hno
  have hflag : { y.modCtx j.ctx Context.flagFull with pwq := pwq, ntw := ntw } =
      ({ s with pwq := pwq, ntw := ntw } : State).modCtx j.ctx (Context.flagFull ∘ Context.dropFrame ∘ Context.encodedBy j) := by
    rw [State.modCtx_comp]
    rfl
  refine ⟨pwq, ntw, ?_, hyes, fun h => ?_⟩
  · rw [hhand, heq, hflag, State.completeEncode_modCtx (by exact hk) (by exact hactive)]
    rfl
  · obtain ⟨hpwq, hntw⟩ := hno h
    exact ⟨hpwq.trans (State.placeNotice_modCtx_pwq ..), hntw.trans (State.placeNotice_modCtx_ntw ..)⟩

/-- R160: and where a slot is free. -/
theorem State.handOff_of_room {f : Frame} (hjk : j.ctx = k)
    (hroom : ¬ (s.erw.producer + s.erw.waiting + 1) % s.win.ne = s.erw.consumer) :
    (s.modCtx k (Context.encodedBy j)).handOff j f = { s with
      engine := { s.engine with running := s.engine.running.map (Running.marked k) }
      ctxs := s.ctxs.set k ((s.ctx k).encodedBy j)
      erw := { s.erw with waiting := s.erw.waiting + 1 }
      pwq := { s.pwq with waiting := s.pwq.waiting ++ [s.egressGroup j f] } } := by
  subst hjk
  refine (if_neg (show ¬ (s.modCtx j.ctx (Context.encodedBy j)).egressRingFull = true from
    fun h => hroom (of_decide_eq_true h))).trans ?_
  rw [State.markWaiting_eq]
  rfl

end

/-- Settles O35. -/
theorem encodeEndOfWork : Obligations.EncodeEndOfWork := by
  refine ⟨fun s k => ⟨fun j => State.workingEncode_some, fun j => State.workingEncode_ne_none⟩,
    fun s k j hs hk hj => ?_, fun j => ?_⟩
  · intro c r counted freed full
    obtain ⟨-, hjk, -⟩ := State.workingEncode_some hj
    rw [exec_encodeEndOfWork_of_settled hs]
    refine ⟨fun hactive hnone => ?_, fun f hactive hframe hfull => ?_, fun f hactive hframe hroom => ?_,
      fun hclosing hne hne' => ?_, fun hclosing hone => ?_⟩
    · have hend := State.encodeEnd_of_active hj hactive
      rw [show (encodeWork j).frame = none from hnone] at hend
      rw [hend, State.completeEncode_modCtx hk (by exact hactive)]
      rfl
    · have hend : s.encodeEnd k = (s.modCtx k (Context.encodedBy j)).handOff j f := by
        rw [State.encodeEnd_of_active hj hactive, show (encodeWork j).frame = some f from hframe]
      obtain ⟨pwq, ntw, heq, hyes, hno⟩ := State.handOff_of_full hk (f := f) hjk hactive hfull
      refine ⟨_, rfl, ?_⟩
      rw [hend, heq]
      exact ⟨rfl, hyes, hno⟩
    · intro type content bytes word
      have hend : s.encodeEnd k = (s.modCtx k (Context.encodedBy j)).handOff j f := by
        rw [State.encodeEnd_of_active hj hactive, show (encodeWork j).frame = some f from hframe]
      have htype : f.type.code = type := by
        simp only [type]
        cases f.type <;> rfl
      have hbytes : egressSlotBytes k s.clocks.frameNo (j.tmpl.take j.tmplLen) f = bytes := by
        simp only [bytes, content, ← htype]
        rfl
      have hlength : bytes.length = 8 + content.length := by
        simp only [bytes, List.length_append, List.length_cons, List.length_nil]
      have hgroup : s.egressGroup j f = .egress k ((s.erw.producer + s.erw.waiting) % s.win.ne)
          (((List.range ((8 + content.length + 3) / 4 - 1)).map fun i => word (i + 1)) ++ [word 0]) := by
        rw [State.egressGroup, hjk, hbytes, groupOrder_eq (by simp [bytes]), hlength]
        rfl
      rw [hend, State.handOff_of_room hjk hroom, hgroup]
      have hmarked : Running.marked k = fun x => match x with
          | .encode i => if i.ctx = k then .encode { i with waiting := true } else .encode i
          | .decode i => .decode i := by
        funext x
        cases x <;> rfl
      rw [hmarked]
      rfl
    · rw [State.encodeEnd_of_closing hj hclosing, State.drainEnd_of_more (show 2 ≤ c.runningJobs by omega)]
    · rw [State.encodeEnd_of_closing hj hclosing, State.drainEnd_of_last hclosing hone]
  · intro r xs stepped type
    have hstepped : dtxStep j.hangover (frameActive j) j.enc.dtx = stepped := dtxStep_eq ..
    obtain ⟨dtx, kind⟩ := stepped
    refine ⟨encodeWork_dtx hstepped, fun onset hkind => ?_, fun hkind => ?_, fun hkind => ?_⟩
    · cases hkind
      intro c
      have hr : r = encodeSpeechFrame j dtx onset := encodeWork_speech hstepped
      rw [hr]
      refine ⟨?_, fun hcodes => ?_⟩
      · have htype : j.mode.type = type := by
          simp only [type]
          cases j.mode <;> rfl
        rw [← htype]
        rfl
      · have hxs : xs.length = 160 := (length_frameSamples j).trans hcodes
        exact ⟨getLastD_eq_getD (length_encodeSpeech hxs _ _ _).2 _, getLastD_eq_getD hxs _⟩
    · cases hkind
      have hr : r = encodeSidFrame j dtx := encodeWork_sid hstepped
      rw [hr]
      exact ⟨rfl, rfl, rfl⟩
    · cases hkind
      have hr : r = { enc := { j.enc with dtx := dtx }, frame := none } := encodeWork_nodata hstepped
      rw [hr]
      exact ⟨rfl, rfl, rfl⟩

end Sys2Proof.Machine

/-! What becomes of a frame offered to a playout queue (R126 to R129). -/
namespace Sys2Proof.Machine

/-! ### The pool through a sequence of changes (R124) -/

section
variable {s t u : State}

theorem State.poolPasses_append {xs ys : List Nat} (h : s.poolPasses u xs) (h' : u.poolPasses t ys) :
    s.poolPasses t (xs ++ ys) := by
  induction xs generalizing s with
  | nil => exact (show u = s from h) ▸ h'
  | cons x xs ih =>
    obtain ⟨v, hframe, hbecomes, hrest⟩ := h
    exact ⟨v, hframe, hbecomes, ih hrest⟩

theorem Refill.frame_with (h : Refill s u) : u = { s with pool := u.pool, ntw := u.ntw, pwq := u.pwq } := by
  rw [h.frame]

theorem State.takeBlocks_poolPasses (s : State) (n : Nat) : s.poolPasses (s.takeBlocks n) [s.pool.free - n] :=
  ⟨s.takeBlocks n, (s.takeBlocks_refill n).frame_with, s.takeBlocks_becomes n, rfl⟩

/-- Entries released in turn, and an insertion after them. -/
theorem State.returnEach_takeBlocks_poolPasses (s : State) (es : List PlayEntry) (n : Nat) :
    s.poolPasses ((s.returnEach es).takeBlocks n) (countsAfter s.pool.free es ++ [s.pool.free + blocksOf es - n]) := by
  have h := State.poolPasses_append (State.returnEach_poolPasses es s) (State.takeBlocks_poolPasses (s.returnEach es) n)
  rwa [State.returnEach_free] at h

/-- What an arrival leaves beside its context's record: nothing but the pool and the groups requested for it. -/
theorem Refill.modCtx_frame (h : Refill s u) (k : Nat) (f : Context → Context) :
    let t := u.modCtx k f
    (∀ j, j ≠ k → t.ctx j = s.ctx j) ∧ t = { s with ctxs := t.ctxs, pool := t.pool, pwq := t.pwq, ntw := t.ntw } := by
  refine ⟨fun j hj => (u.ctx_modCtx_of_ne f hj).trans (h.ctx j), ?_⟩
  rw [h.frame_with]
  rfl

theorem Refill.modCtx_ctx (h : Refill s u) {k : Nat} (hk : k < s.ctxs.length) (f : Context → Context) :
    (u.modCtx k f).ctx k = f (s.ctx k) := by
  rw [u.ctx_modCtx_self f (by rw [h.ctxs]; exact hk), h.ctx]

end

/-! ### The entries a catch-up releases (R129) -/

theorem beyond_moved {x a : Byte} {q : Nat} {l : List PlayEntry} (h : ∀ o ∈ l, distance x o.seq < q) (hq : 2 ≤ q) (hq' : q ≤ 8)
    (hfar : q ≤ distance x a) (hearly : distance x a < 128) :
    beyond (a - BitVec.ofNat 8 (q - 1)) q l = l.filter fun o => decide (distance x o.seq < distance x a + 1 - q) := by
  have hmoved := sub_eq_add_distance x a (n := q - 1) (by omega)
  obtain ⟨hwithin, -⟩ := within_moved h (n := distance x a - (q - 1)) (by omega) (by omega)
  rw [← hmoved] at hwithin
  refine List.filter_congr fun o ho => decide_eq_decide.mpr ?_
  have hiff : distance (a - BitVec.ofNat 8 (q - 1)) o.seq < q ↔ distance x a - (q - 1) ≤ distance x o.seq := by
    have hmem := mem_within (x := a - BitVec.ofNat 8 (q - 1)) (q := q) (l := l) (e := o)
    rw [hwithin, List.mem_filter] at hmem
    simpa [ho] using hmem.symm
  omega

theorem mem_within_iff_not_beyond {x : Byte} {q : Nat} {l : List PlayEntry} {o : PlayEntry} :
    o ∈ within x q l ↔ o ∈ l ∧ o ∉ beyond x q l := by
  simp only [mem_within, beyond, List.mem_filter, decide_eq_true_eq, not_and, not_le]
  exact ⟨fun h => ⟨h.1, fun _ => h.2⟩, fun h => ⟨h.1, h.2 h.1⟩⟩

/-- R129: the record after a catch-up. -/
theorem Context.catchUp_eq (e : PlayEntry) (c : Context) :
    let y := e.seq - BitVec.ofNat 8 (c.cfg.q - 1)
    let gone := beyond y c.cfg.q c.playout
    c.catchUp e = { c with
      expected := some y, playout := insertByDistance y e (within y c.cfg.q c.playout)
      counters := if gone = [] then c.counters else { c.counters with late := min (c.counters.late + gone.length) 65535 }
      edges := { c.edges with rejected := false } } := by
  intro y gone
  simp only [← List.length_eq_zero_iff]
  rfl

/-- Settles O31. -/
theorem playoutArrival : Obligations.PlayoutArrival := by
  intro s k e hk c t q hordered hq hq' hd
  obtain hx | ⟨x, hx⟩ := Option.eq_none_or_eq_some (s.ctx k).expected
  · have ht : t = _ := State.offer_of_unset hx e
    have hfill := s.takeBlocks_refill e.blocks
    have hctx : t.ctx k = _ := (congrArg (State.ctx · k) ht).trans (hfill.modCtx_ctx hk _)
    have hempty : (s.ctx k).playout = [] := by rwa [show c.expected = none from hx] at hordered
    have hrecord : t.ctx k = { c with
        expected := some (e.seq - BitVec.ofNat 8 c.cfg.d), playout := [e], edges := { c.edges with rejected := false } } := by
      rw [hctx, Context.insert, Context.expect]
      simp only [hempty]
      rfl
    have hpool : s.poolBecomes t (s.pool.free - e.blocks) := by
      rw [ht]
      exact s.takeBlocks_becomes e.blocks
    obtain ⟨hother, hframe⟩ := hfill.modCtx_frame k fun c => (c.expect (e.seq - BitVec.ofNat 8 c.cfg.d)).insert e
    rw [← ht] at hother hframe
    refine ⟨hother, hframe, ?_, fun _ => ⟨hrecord, hpool⟩, fun x hx' => by rw [show c.expected = none from hx] at hx'; cases hx'⟩
    rw [hrecord]
    exact ⟨List.pairwise_singleton .., by simpa [distance_sub_self _ (show c.cfg.d < 256 by omega)] using hd⟩
  · have hordered' : playoutOrdered q (some x) c.playout := by rwa [show c.expected = some x from hx] at hordered
    have hsome {P : Byte → Prop} (h : P x) : ∀ y, c.expected = some y → P y := fun y hy =>
      Option.some.inj (hx.symm.trans hy) ▸ h
    have hunset {P : Prop} : c.expected = none → P := fun h => by rw [show c.expected = some x from hx] at h; cases h
    by_cases hlate : 128 ≤ distance x e.seq ∨ ∃ o ∈ c.playout, o.seq = e.seq
    · have ht : t = s.modCtx k (Context.late 1) := State.offer_of_late hx hlate
      obtain ⟨hother, hframe⟩ := (Refill.refl s).modCtx_frame k (Context.late 1)
      have hctx : t.ctx k = c.late 1 := (congrArg (State.ctx · k) ht).trans (s.ctx_modCtx_self _ hk)
      rw [← ht] at hother hframe
      refine ⟨hother, hframe, ?_, hunset, hsome ⟨fun _ => ht, fun hnew hnear => ?_, fun hfar hearly => ?_⟩⟩
      · rw [hctx]
        exact hordered
      · rcases hlate with h | ⟨o, ho, h⟩
        · omega
        · exact absurd h (hnew o ho)
      · rcases hlate with h | ⟨o, ho, h⟩
        · omega
        · have := hordered'.2 o ho
          rw [h] at this
          omega
    · obtain ⟨hearly, hnew⟩ := not_or.mp hlate
      have hnew' : ∀ o ∈ c.playout, o.seq ≠ e.seq := fun o ho heq => hnew ⟨o, ho, heq⟩
      by_cases hnear : distance x e.seq < q
      · have ht : t = _ := State.offer_of_near hx hnew' hnear (Nat.lt_of_not_le hearly)
        have hfill := s.takeBlocks_refill e.blocks
        have hctx : t.ctx k = c.insert e := (congrArg (State.ctx · k) ht).trans (hfill.modCtx_ctx hk _)
        have hplayout : (t.ctx k).playout = insertByDistance x e c.playout := by
          rw [hctx, Context.insert, show c.expected = some x from hx]
          rfl
        have hpool : s.poolBecomes t (s.pool.free - e.blocks) := by
          rw [ht]
          exact s.takeBlocks_becomes e.blocks
        obtain ⟨hother, hframe⟩ := hfill.modCtx_frame k (Context.insert e)
        rw [← ht] at hother hframe
        refine ⟨hother, hframe, ?_, hunset, hsome ⟨fun h => absurd h hlate, fun _ _ => ⟨?_, fun o => ?_, hpool⟩, fun h => ?_⟩⟩
        · rw [hplayout, hctx, show (c.insert e).expected = some x from hx]
          exact playoutOrdered_insert hordered' hnew' hnear
        · rw [hctx]
          rfl
        · rw [hplayout, mem_insertByDistance]
        · omega
      · have ht : t = _ := State.offer_of_far hx hnew' (Nat.le_of_not_lt hnear) (Nat.lt_of_not_le hearly)
        have hreleased : beyond (e.seq - BitVec.ofNat 8 (q - 1)) q c.playout =
            c.playout.filter fun o => decide (distance x o.seq < distance x e.seq + 1 - q) :=
          beyond_moved hordered'.2 hq hq' (Nat.le_of_not_lt hnear) (Nat.lt_of_not_le hearly)
        have hreturn := s.returnEach_refill (beyond (e.seq - BitVec.ofNat 8 (q - 1)) q c.playout)
        have hfill := hreturn.trans (State.takeBlocks_refill _ e.blocks)
        have hctx : t.ctx k = c.catchUp e := (congrArg (State.ctx · k) ht).trans (hfill.modCtx_ctx hk _)
        have hplayout : (t.ctx k).playout = insertByDistance (e.seq - BitVec.ofNat 8 (q - 1)) e
            (within (e.seq - BitVec.ofNat 8 (q - 1)) q c.playout) := by
          rw [hctx]
          rfl
        have hpasses := s.returnEach_takeBlocks_poolPasses (beyond (e.seq - BitVec.ofNat 8 (q - 1)) q c.playout) e.blocks
        have hfree := s.returnEach_free (beyond (e.seq - BitVec.ofNat 8 (q - 1)) q c.playout)
        obtain ⟨hother, hframe⟩ := hfill.modCtx_frame k (Context.catchUp e)
        rw [← ht] at hother hframe
        refine ⟨hother, hframe, ?_, hunset, hsome ⟨fun h => absurd h hlate, fun _ h => absurd h hnear, fun hfar hearly => ?_⟩⟩
        · rw [hplayout, hctx]
          exact playoutOrdered_catchUp hordered' hnew' hq hq' (Nat.le_of_not_lt hnear) (Nat.lt_of_not_le ‹_›)
        · intro released
          have hgone : beyond (e.seq - BitVec.ofNat 8 (q - 1)) q c.playout = released := hreleased
          rw [hgone] at hpasses hfree
          refine ⟨?_, fun o => ?_, ?_, _, hpasses, ?_⟩
          · rw [hctx, Context.catchUp_eq, show c.cfg.q = q from rfl, hgone]
          · rw [hplayout, mem_insertByDistance, mem_within_iff_not_beyond, hgone]
          · rw [ht, show (s.ctx k).cfg.q = q from rfl, show (s.ctx k).playout = c.playout from rfl, hgone]
            exact (State.takeBlocks_free ..).trans (by rw [hfree]; rfl)
          · rw [ht, show (s.ctx k).cfg.q = q from rfl, show (s.ctx k).playout = c.playout from rfl, hgone]
            exact ⟨rfl, rfl, rfl⟩

end Sys2Proof.Machine

/-! The values power-on clear leaves (R110, R172), and the laws there. -/
namespace Sys2Proof.Machine

theorem forall_reset_ctxs {P : Context → Prop} (h : P Context.cleared) : ∀ c ∈ State.reset.ctxs, P c :=
  fun _ hc => List.eq_of_mem_replicate hc ▸ h

theorem reset_ctx (k : Nat) : State.reset.ctx k = Context.cleared := State.afterReset_ctx ..

theorem reset_tapSet (t : Nat) : State.reset.tapSet t = [] := by
  rw [State.tapSet, List.getD_eq_getElem?_getD]
  simp only [State.reset, State.afterReset, List.getElem?_replicate]
  split <;> rfl

theorem reset_claimList (t : Nat) : State.reset.claimList t = [] := reset_tapSet t

theorem reset_blockLaws : State.reset.queueLaw ∧ State.reset.laneLaw ∧ State.reset.memoryLaw ∧ State.reset.counterLaw ∧
    State.reset.detectorLaw :=
  ⟨Nat.zero_le _, Nat.zero_le _, Memory.wf_reset, forall_reset_ctxs (by decide), forall_reset_ctxs (by decide)⟩

theorem reset_coderLaw : State.reset.coderLaw :=
  ⟨List.length_replicate .., forall_reset_ctxs
    ⟨by decide, ⟨by decide, by decide, Nat.zero_le 7⟩, by decide, fun h => absurd rfl h, nofun⟩, nofun, nofun⟩

theorem reset_rangeLaw : State.reset.rangeLaw := ⟨by decide, by decide, by decide, by decide, by decide, nofun⟩

theorem reset_fetchLaw : State.reset.fetchLaw := ⟨by decide, List.nodup_nil, rfl, fun _ => rfl⟩

theorem reset_mapLaw : State.reset.mapLaw := by
  refine ⟨List.length_replicate .., List.length_replicate .., List.length_replicate .., nofun, fun t _ => ?_,
    fun k _ h => ?_, fun k _ t _ => ?_⟩
  · simp [reset_tapSet, reset_claimList]
  · rw [reset_ctx] at h
    cases h
  · rw [reset_tapSet, reset_claimList, reset_ctx]
    simp [Context.cleared]

theorem reset_tagLaw : State.reset.tagLaw := by
  refine ⟨List.length_replicate .., List.nodup_nil, nofun, fun k _ tag => iff_of_false nofun ?_⟩
  rw [reset_ctx]
  nofun

theorem reset_tagsActive : State.reset.tagsActive := ⟨List.length_replicate .., nofun⟩

theorem reset_poolLaw : State.reset.poolLaw := by
  refine ⟨reset_tagsActive, forall_reset_ctxs fun _ => rfl, ?_⟩
  have hblocks : State.reset.ctxs.map Context.blocksHeld = List.replicate 384 0 := List.map_replicate ..
  rw [hblocks, List.sum_replicate]
  rfl

theorem reset_playoutLaw : State.reset.playoutLaw :=
  ⟨reset_tagsActive, forall_reset_ctxs nofun, forall_reset_ctxs rfl⟩

theorem reset_jobLaw : State.reset.jobLaw := by
  refine ⟨List.length_replicate .., fun k _ => ?_, nofun, nofun, nofun⟩
  rw [State.contextJobs, reset_ctx]
  exact ⟨rfl, Nat.zero_le _, Nat.zero_le _, Nat.zero_le _, Nat.zero_le _, rfl, rfl, rfl, rfl⟩

theorem reset_slotLaw : State.reset.slotLaw := ⟨fun _ => forall_reset_ctxs rfl, nofun, rfl, rfl⟩

theorem reset_sizeLaw : State.reset.sizeLaw := ⟨forall_reset_ctxs ⟨rfl, rfl, Nat.le_refl 8⟩, nofun, nofun⟩

/-- Settles O4. -/
theorem resetValues : Obligations.ResetValues := by
  obtain ⟨hqueue, hlanes, hmemory, hcounters, hdetectors⟩ := reset_blockLaws
  exact ⟨rfl, rfl, rfl, rfl, List.length_replicate .., forall_reset_ctxs (by decide), rfl, rfl, rfl, rfl, rfl, rfl, rfl, rfl, rfl, rfl,
    rfl, rfl, rfl, rfl, rfl, rfl, rfl, rfl, rfl, rfl, rfl, rfl, rfl, rfl, rfl, rfl, rfl, rfl, rfl, fun _ => rfl, rfl,
    hqueue, hlanes, hmemory, hcounters, hdetectors, reset_coderLaw, reset_rangeLaw, State.lineLaw_of_idle rfl rfl rfl,
    reset_fetchLaw, reset_mapLaw, reset_tagLaw, reset_poolLaw, ⟨by decide, nofun⟩, reset_playoutLaw, reset_jobLaw,
    reset_slotLaw, reset_sizeLaw⟩

end Sys2Proof.Machine

/-! A pass over the contexts whose boundary an advance crosses (R61, R62, R64), and the egress PCM read (R70 to R72). -/
namespace Sys2Proof.Machine

/-! ### A pass over distinct numbers, each of which changes its own view alone -/

section
variable {σ α β : Type} {f : σ → Nat → σ} {view : Nat → σ → α} {P : σ → Prop} {R : Nat → Prop} {l : List Nat} {s : σ}
  (hP : ∀ t k, P t → R k → P (f t k)) (hother : ∀ t k, P t → R k → ∀ j, j ≠ k → view j (f t k) = view j t)
include hP hother

theorem foldl_view {F : Nat → α → α} (hself : ∀ t k, P t → R k → view k (f t k) = F k (view k t))
    (hl : ∀ k ∈ l, R k) (hnodup : l.Nodup) (hs : P s) (j : Nat) :
    view j (l.foldl f s) = if j ∈ l then F j (view j s) else view j s := by
  induction l generalizing s with
  | nil => rfl
  | cons k l ih =>
    obtain ⟨hk, hrest⟩ := List.forall_mem_cons.mp hl
    obtain ⟨hfresh, hnodup⟩ := List.nodup_cons.mp hnodup
    rw [List.foldl_cons, ih hrest hnodup (hP s k hs hk)]
    by_cases hj : j = k
    · subst hj
      rw [if_neg hfresh, if_pos List.mem_cons_self, hself s j hs hk]
    · simp only [hother s k hs hk j hj, List.mem_cons, hj, false_or]

theorem foldl_out {out : σ → β} {Q : α → Prop}
    (hquiet : ∀ t k, P t → R k → Q (view k t) → out (f t k) = out t) (hl : ∀ k ∈ l, R k) (hnodup : l.Nodup) (hs : P s)
    (hQ : ∀ k ∈ l, Q (view k s)) : out (l.foldl f s) = out s := by
  induction l generalizing s with
  | nil => rfl
  | cons k l ih =>
    obtain ⟨hk, hrest⟩ := List.forall_mem_cons.mp hl
    obtain ⟨hfresh, hnodup⟩ := List.nodup_cons.mp hnodup
    obtain ⟨hQk, hQrest⟩ := List.forall_mem_cons.mp hQ
    rw [List.foldl_cons, ih hrest hnodup (hP s k hs hk) fun j hj => ?_, hquiet s k hs hk hQk]
    rw [hother s k hs hk j fun h => hfresh (h ▸ hj)]
    exact hQrest j hj

end

/-! ### The frame of a boundary (R67, R70, R71) -/

/-- A boundary changes nothing but records, pending jobs and what a notice request changes. -/
def BoundaryFrame (s t : State) : Prop :=
  t = { s with
    ctxs := t.ctxs, engine := { s.engine with jobs := t.engine.jobs }
    pwq := { s.pwq with waiting := t.pwq.waiting }
    ntw := { s.ntw with waiting := t.ntw.waiting, lost := t.ntw.lost } }

section
variable {s t u : State}

theorem BoundaryFrame.refl (s : State) : BoundaryFrame s s := rfl

theorem BoundaryFrame.trans (h : BoundaryFrame s t) (h' : BoundaryFrame t u) : BoundaryFrame s u := by
  refine Eq.trans h' ?_
  rw [show t = _ from h]

theorem BoundaryFrame.foldl {f : State → Nat → State} {n : Nat} {l : List Nat}
    (h : ∀ t k, t.ctxs.length = n → k < n → BoundaryFrame t (f t k)) (hlen : ∀ t k, t.ctxs.length = n → (f t k).ctxs.length = n)
    (hl : ∀ k ∈ l, k < n) (hs : s.ctxs.length = n) : BoundaryFrame s (l.foldl f s) := by
  induction l generalizing s with
  | nil => exact BoundaryFrame.refl s
  | cons k l ih =>
    obtain ⟨hk, hrest⟩ := List.forall_mem_cons.mp hl
    exact (h s k hs hk).trans (ih hrest (hlen s k hs))

theorem BoundaryFrame.modCtx (s : State) (k : Nat) (f : Context → Context) : BoundaryFrame s (s.modCtx k f) := rfl

theorem BoundaryFrame.requestJob (s : State) (k : Nat) (kind : JobKind) : BoundaryFrame s (s.requestJob k kind) := rfl

theorem BoundaryFrame.placeNotice (s : State) (kind : NoticeKind) (ctx detail : Nat) (l : List Nat) :
    BoundaryFrame s (s.placeNotice kind ctx detail l) := by
  unfold BoundaryFrame State.placeNotice
  split <;> rfl

theorem State.length_placeNotice (s : State) (kind : NoticeKind) (ctx detail : Nat) (l : List Nat) :
    (s.placeNotice kind ctx detail l).ctxs.length = s.ctxs.length := by
  rw [State.placeNotice_frame]

end

/-! ### Egress boundaries -/

section
variable {s : State} {k : Nat}

theorem State.egressBoundary_boundaryFrame (hk : k < s.ctxs.length) : BoundaryFrame s (s.egressBoundary k) := by
  cases hready : (s.ctx k).nReady with
  | true =>
    rw [State.egressBoundary_of_ready hready]
    exact (BoundaryFrame.modCtx ..).trans (BoundaryFrame.requestJob ..)
  | false =>
    rw [State.egressBoundary_of_not_ready hready]
    cases hflag : (s.ctx k).edges.slip with
    | true =>
      rw [State.slip_of_flagged hk hflag]
      exact BoundaryFrame.modCtx ..
    | false =>
      rw [State.slip_of_unflagged hk hflag]
      exact (BoundaryFrame.modCtx ..).trans (BoundaryFrame.placeNotice ..)

theorem State.egressBoundary_length (s : State) (k : Nat) : (s.egressBoundary k).ctxs.length = s.ctxs.length := by
  unfold State.egressBoundary State.slip State.noticeSlip
  dsimp only
  split_ifs <;> simp [State.modCtx, State.length_placeNotice, State.setEdges, State.requestJob]

/-- What an egress boundary looks at and changes of its context: the record and the pending jobs. -/
def State.egressView (s : State) (k : Nat) : Context × Nat × Nat :=
  (s.ctx k, s.pendingCount k .decode, s.pendingCount k .encode)

/-- R70, R71: a swap, with a decode job requested, or a slip. -/
def egressTurn (v : Context × Nat × Nat) : Context × Nat × Nat :=
  if v.1.nReady then (v.1.swap, v.2.1 + 1, v.2.2) else (v.1.slipped, v.2.1, v.2.2)

theorem State.pendingCount_requestJob (s : State) (k j : Nat) (kind kind' : JobKind) :
    (s.requestJob k kind).pendingCount j kind' = s.pendingCount j kind' + if Job.mk k kind = Job.mk j kind' then 1 else 0 := by
  have hcount : (s.requestJob k kind).pendingCount j kind' = (s.engine.jobs ++ [Job.mk k kind]).count (Job.mk j kind') := rfl
  rw [hcount, List.count_append, List.count_singleton]
  simp only [beq_iff_eq]
  rfl

theorem State.egressView_boundary_self (hk : k < s.ctxs.length) :
    (s.egressBoundary k).egressView k = egressTurn (s.egressView k) := by
  cases hready : (s.ctx k).nReady with
  | true =>
    have hturn : egressTurn (s.egressView k) = ((s.ctx k).swap, s.pendingCount k .decode + 1, s.pendingCount k .encode) :=
      if_pos hready
    rw [State.egressBoundary_of_ready hready, hturn, State.egressView, State.pendingCount_requestJob,
      State.pendingCount_requestJob, State.ctx_requestJob, s.ctx_modCtx_self _ hk, if_pos rfl, if_neg (by simp)]
    rfl
  | false =>
    have hturn : egressTurn (s.egressView k) = ((s.ctx k).slipped, s.pendingCount k .decode, s.pendingCount k .encode) :=
      if_neg (by simp [State.egressView, hready])
    obtain ⟨hengine, hctx⟩ := State.slip_records hk
    rw [State.egressBoundary_of_not_ready hready, hturn, State.egressView, State.pendingCount, State.pendingCount, hengine, hctx,
      s.ctx_modCtx_self _ hk]
    rfl

theorem State.egressView_boundary_of_ne (hk : k < s.ctxs.length) {j : Nat} (hj : j ≠ k) :
    (s.egressBoundary k).egressView j = s.egressView j := by
  have hne (kind : JobKind) : ¬ Job.mk k .decode = Job.mk j kind := fun h => hj (congrArg Job.ctx h).symm
  cases hready : (s.ctx k).nReady with
  | true =>
    rw [State.egressBoundary_of_ready hready, State.egressView, State.pendingCount_requestJob, State.pendingCount_requestJob,
      State.ctx_requestJob, s.ctx_modCtx_of_ne _ hj, if_neg (hne _), if_neg (hne _)]
    rfl
  | false =>
    obtain ⟨hengine, hctx⟩ := State.slip_records hk
    rw [State.egressBoundary_of_not_ready hready, State.egressView, State.pendingCount, State.pendingCount, hengine, hctx,
      s.ctx_modCtx_of_ne _ hj]
    rfl

/-- R70, R165: a swap requests no notice, nor does a slip that is flagged already. -/
theorem State.egressBoundary_quiet (hk : k < s.ctxs.length) (h : (s.ctx k).nReady = true ∨ (s.ctx k).edges.slip = true) :
    (s.egressBoundary k).ntw = s.ntw ∧ (s.egressBoundary k).pwq = s.pwq := by
  cases hready : (s.ctx k).nReady with
  | true =>
    rw [State.egressBoundary_of_ready hready]
    exact ⟨rfl, rfl⟩
  | false =>
    rw [State.egressBoundary_of_not_ready hready, State.slip_of_flagged hk (h.resolve_left (by simp [hready]))]
    exact ⟨rfl, rfl⟩

end

/-! ### The egress clock advance -/

section
variable {s : State} {f : Nat}

/-- R62: with the position in its range, an advance by no step is the move by no step and its empty pass. -/
theorem State.advanceEgress_eq (hpos : s.clocks.outPos < 160) (hframe : s.clocks.outFrame < s.win.frames) :
    let steps := advanceSteps s.win.frames s.clocks.outFrame f
    s.advanceEgress f = (s.swapping s.clocks.outPos steps).foldl State.egressBoundary (s.moveEgress f steps) := by
  intro steps
  by_cases hf : f = s.clocks.outFrame
  · have hsteps : steps = 0 := by
      simp only [steps, advanceSteps, hf]
      rw [show s.clocks.outFrame + s.win.frames - s.clocks.outFrame = s.win.frames by omega, Nat.mod_self]
    have hnone : s.swapping s.clocks.outPos 0 = [] := by
      rw [List.eq_nil_iff_forall_not_mem]
      intro k hk
      simp [State.swapping, State.mem_ctxsWhere, passes] at hk
    have hmove : s.moveEgress f 0 = s := by
      rw [State.moveEgress, hf, Nat.add_zero, Nat.mod_eq_of_lt hpos]
    rw [State.advanceEgress, if_pos hf, hsteps, hnone, hmove]
    rfl
  · rw [State.advanceEgress, if_neg hf]

theorem State.mem_swapping {p steps j : Nat} (hsteps : steps < 160) :
    j ∈ s.swapping p steps ↔ (s.ctx j).state = .active ∧ (s.ctx j).cfg.downlink = true ∧
      ∃ i, 1 ≤ i ∧ i ≤ steps ∧ (p + i) % 160 = 20 * ((s.ctx j).cfg.outSlot % 8) := by
  have hpass := passes_iff (p := p) (k := steps) (b := boundary (s.ctx j).cfg.outSlot) (by unfold boundary; omega) hsteps
  rw [State.swapping, State.mem_ctxsWhere, Bool.and_eq_true, Bool.and_eq_true, decide_eq_true_eq, hpass, boundary, and_assoc]
  exact ⟨fun h => h.2, fun h => ⟨s.lt_length_of_active h.1, h⟩⟩

end

/-- What an egress clock advance leaves (R62, R70, R71), over the state `s` and the contexts `l` whose boundary it crosses. -/
structure EgressAdvanced (s t : State) (l : List Nat) : Prop where
  frame : BoundaryFrame s t
  views : ∀ j, t.egressView j = if j ∈ l then egressTurn (s.egressView j) else s.egressView j
  quiet : (∀ j ∈ l, (s.ctx j).nReady = true ∨ (s.ctx j).edges.slip = true) → t.ntw = s.ntw ∧ t.pwq = s.pwq

theorem EgressAdvanced.of_foldl {s : State} {l : List Nat} (hl : ∀ k ∈ l, k < s.ctxs.length) (hnodup : l.Nodup) :
    EgressAdvanced s (l.foldl State.egressBoundary s) l := by
  have hlen (t : State) (k : Nat) (ht : t.ctxs.length = s.ctxs.length) (_ : k < s.ctxs.length) :
      (t.egressBoundary k).ctxs.length = s.ctxs.length := (t.egressBoundary_length k).trans ht
  have hother (t : State) (k : Nat) (ht : t.ctxs.length = s.ctxs.length) (hk : k < s.ctxs.length) (j : Nat) (hj : j ≠ k) :
      (t.egressBoundary k).egressView j = t.egressView j := State.egressView_boundary_of_ne (ht ▸ hk) hj
  refine ⟨?_, fun j => ?_, fun hquiet => ?_⟩
  · exact BoundaryFrame.foldl (n := s.ctxs.length) (fun t k ht hk => State.egressBoundary_boundaryFrame (ht ▸ hk))
      (fun t k ht => (t.egressBoundary_length k).trans ht) hl rfl
  · exact foldl_view (view := fun j t => State.egressView t j) (F := fun _ => egressTurn) hlen hother
      (fun t k ht hk => State.egressView_boundary_self (ht ▸ hk)) hl hnodup rfl j
  · have hout := foldl_out (view := fun j t => State.egressView t j) (out := fun t : State => (t.ntw, t.pwq))
      (Q := fun v => v.1.nReady = true ∨ v.1.edges.slip = true) hlen hother
      (fun t k ht hk h => Prod.ext_iff.mpr (State.egressBoundary_quiet (ht ▸ hk) h)) hl hnodup rfl hquiet
    exact Prod.ext_iff.mp hout

/-! ### The egress PCM read -/

/-- The ring of a RUNNING part has at most 64 frames, and the clock's frame is one of them (R60, R174). -/
theorem State.egressClock_inRange {s : State} (h : s.rangeLaw) (hrun : s.part.state ≠ .idle) :
    s.clocks.outPos < 160 ∧ s.clocks.outFrame < s.win.frames ∧ s.win.frames ≤ 64 := by
  obtain ⟨-, hpos, -, -, -, hrunning⟩ := h
  have hstate : s.part.state = .running := by
    cases hs : s.part.state with
    | idle => exact absurd hs hrun
    | running => rfl
  obtain ⟨hwin, -, hframe, -⟩ := hrunning hstate
  obtain ⟨-, -, -, -, hframes, -⟩ := Windows.rangesOk_iff.mp hwin
  exact ⟨hpos, hframe, hframes⟩

/-- R72: a head's byte by its replay level. -/
theorem State.suppliedByte_eq (s : State) (c : Context) :
    let code := c.p.getD ((s.clocks.outPos + 160 - 20 * (c.cfg.outSlot % 8)) % 160) (silence c.cfg.law)
    s.suppliedByte c =
      if c.replay = 0 then code
      else if c.replay ≤ 3 then compress c.cfg.law (shiftRight (expand c.cfg.law code) c.replay)
      else silence c.cfg.law := by
  intro code
  unfold State.suppliedByte
  by_cases hzero : c.replay = 0
  · rw [if_neg (by omega), if_pos hzero, hzero, attenuate_zero]
    rfl
  · by_cases hlow : c.replay ≤ 3
    · rw [if_neg (by omega), if_neg hzero, if_pos hlow, attenuate, if_neg hzero]
      rfl
    · rw [if_pos (by omega), if_neg hzero, if_neg hlow]

/-- A granted egress PCM read: the advance, and the bytes supplied after it. -/
theorem State.grantRead_of_egress {s : State} {b : ReadBurst} (h : s.areaOf b.addr.toNat = .egressPcm) :
    let u := s.countMasterGrant.advanceEgress ((b.addr.toNat - s.win.egressBase) / s.win.slots)
    s.grantRead b = { u with
      readData := u.egressBytes b.addr.toNat (4 * b.count)
      openReads := if b.addr.toNat + 4 * b.count ≤ u.fitted then u.openReads else u.openReads + 1 } := by
  have harea : s.countMasterGrant.areaOf b.addr.toNat = .egressPcm := h
  intro u
  rw [State.grantRead, if_pos harea, State.returned, State.noteRead_eq]
  rfl

/-- Settles O11. -/
theorem egressRead : Obligations.EgressRead := by
  intro s b hb hturn hrange harea f k crossed
  obtain ⟨hrun, hring⟩ := State.areaOf_egressPcm harea
  obtain ⟨hpos, hframe, hframes⟩ := State.egressClock_inRange hrange hrun
  have hk : k < s.win.frames := Nat.mod_lt _ (by omega)
  let moved := s.countMasterGrant.moveEgress f k
  let l := s.swapping s.clocks.outPos k
  have hl : ∀ j, j ∈ l ↔ crossed j := fun j => State.mem_swapping (by omega)
  have hin : ∀ j ∈ l, j < moved.ctxs.length := fun j hj => (State.mem_ctxsWhere.mp hj).1
  have hadvance : s.countMasterGrant.advanceEgress f = l.foldl State.egressBoundary moved :=
    State.advanceEgress_eq (s := s.countMasterGrant) hpos hframe
  have hdone : EgressAdvanced moved (l.foldl State.egressBoundary moved) l := .of_foldl hin (State.nodup_ctxsWhere ..)
  have hgrant := State.grantRead_of_egress harea
  rw [show (b.addr.toNat - s.win.egressBase) / s.win.slots = f from rfl, hadvance] at hgrant
  have hstill : k = 0 → (l.foldl State.egressBoundary moved).ctxs = s.ctxs ∧
      (l.foldl State.egressBoundary moved).engine = s.engine := by
    intro hzero
    have hnone : l = [] := List.eq_nil_iff_forall_not_mem.mpr fun j hj => by
      obtain ⟨-, -, i, hi, hik, -⟩ := (hl j).mp hj
      omega
    rw [hnone]
    exact ⟨rfl, rfl⟩
  generalize l.foldl State.egressBoundary moved = u at hdone hgrant hstill
  obtain ⟨huframe, hviews, hquiet⟩ := hdone
  have hwin : u.win = s.win := by rw [show u = _ from huframe]; rfl
  have hclaims (ts : Nat) : u.claimList ts = s.claimList ts := by rw [show u = _ from huframe]; rfl
  have hread (a : Nat) : u.readByte a = s.readByte a := by rw [show u = _ from huframe]; rfl
  have hview (j : Nat) : u.egressView j = if j ∈ l then egressTurn (s.egressView j) else s.egressView j := hviews j
  refine ⟨_, (show exec (.egressPcmRead b) s = .next (s.grantRead b) from masterReadAccess_of_turn hb hturn).trans
    (congrArg Host.Outcome.next hgrant), ?_, ?_, fun i hi => ?_, ?_, fun j hj hready => ?_, fun j hj hready => ?_, fun j hj => ?_,
    fun j => ?_, fun hall => ?_, hstill⟩
  · exact congrArg State.clocks huframe
  · simp [State.egressBytes]
  · have hbyte : (u.egressBytes b.addr.toNat (4 * b.count)).getD i 0 =
        u.substitute ((b.addr.toNat + i - s.win.egressBase) % s.win.slots) (s.readByte (b.addr.toNat + i)) := by
      rw [State.egressBytes, List.getD_eq_getElem?_getD, List.getElem?_map, List.getElem?_range hi, hwin, ← hread]
      rfl
    refine hbyte.trans ?_
    rw [State.substitute, hclaims]
    cases s.claimList ((b.addr.toNat + i - s.win.egressBase) % s.win.slots) with
    | nil => rfl
    | cons head rest => exact State.suppliedByte_eq u (u.ctx head)
  · rw [show u = _ from huframe]
    rfl
  · have hturn : u.egressView j = ((s.ctx j).swap, s.pendingCount j .decode + 1, s.pendingCount j .encode) := by
      rw [hview, if_pos ((hl j).mpr hj)]
      exact if_pos hready
    exact ⟨congrArg Prod.fst hturn, congrArg (fun v => v.2.1) hturn⟩
  · have hturn : u.egressView j = ((s.ctx j).slipped, s.pendingCount j .decode, s.pendingCount j .encode) := by
      rw [hview, if_pos ((hl j).mpr hj)]
      exact if_neg (by simp [State.egressView, hready])
    exact ⟨congrArg Prod.fst hturn, congrArg (fun v => v.2.1) hturn⟩
  · have hkeep : u.egressView j = s.egressView j := by rw [hview, if_neg (mt (hl j).mp hj)]
    exact ⟨congrArg Prod.fst hkeep, congrArg (fun v => v.2.1) hkeep⟩
  · have hencode : (u.egressView j).2.2 = (s.egressView j).2.2 := by
      rw [hview]
      split
      · rw [egressTurn]
        split <;> rfl
      · rfl
    exact hencode
  · obtain ⟨hntw, hpwq⟩ := hquiet fun j hj => hall j ((hl j).mp hj)
    exact ⟨hntw, congrArg Pwq.waiting hpwq⟩

end Sys2Proof.Machine

/-! The ingress PCM write (R61, R64, R66, R67): its clock advance with the flips, and the tap. -/
namespace Sys2Proof.Machine

/-! ### Flips in turn -/

section
variable {s : State} {k : Nat}

theorem State.missUplink_boundaryFrame (hk : k < s.ctxs.length) : BoundaryFrame s (s.missUplink k) := by
  by_cases hpending : Job.mk k .encode ∈ s.engine.jobs
  · cases hflag : (s.ctx k).edges.uplinkMissed with
    | true =>
      rw [State.missUplink_of_flagged hpending hk hflag]
      rfl
    | false =>
      rw [State.missUplink_of_unflagged hpending hk hflag]
      exact BoundaryFrame.trans (t := (s.withdrawJob k .encode).modCtx k Context.missed) rfl (BoundaryFrame.placeNotice ..)
  · rw [State.missUplink_of_absent hpending]
    exact BoundaryFrame.refl s

theorem State.flip_boundaryFrame (hk : k < s.ctxs.length) : BoundaryFrame s (s.flip k) :=
  ((State.missUplink_boundaryFrame hk).trans (BoundaryFrame.modCtx ..)).trans (BoundaryFrame.requestJob ..)

/-- What a flip looks at and changes of its context: the record and the pending jobs. -/
def State.ingressView (s : State) (k : Nat) : Context × Nat × Nat :=
  (s.ctx k, s.pendingCount k .encode, s.pendingCount k .decode)

/-- R67: the halves change places, a job that was pending counts as missed, and one encode job is pending after. -/
def ingressTurn (v : Context × Nat × Nat) : Context × Nat × Nat :=
  ((if 0 < v.2.1 then v.1.missed else v.1).flipHalves, 1, v.2.2)

theorem State.pendingCount_pos {kind : JobKind} : 0 < s.pendingCount k kind ↔ Job.mk k kind ∈ s.engine.jobs :=
  List.count_pos_iff

theorem State.ingressView_flip_self (hk : k < s.ctxs.length) : (s.flip k).ingressView k = ingressTurn (s.ingressView k) := by
  obtain ⟨hone, hjobs, -⟩ := flipHalves s k hk
  have hdecode : (s.flip k).pendingCount k .decode = s.pendingCount k .decode := hjobs _ (by simp)
  rw [State.ingressView, hone, hdecode, State.flip_ctx hk, if_pos rfl, ingressTurn]
  simp only [State.ingressView, State.pendingCount_pos]

theorem State.ingressView_flip_of_ne (hk : k < s.ctxs.length) {j : Nat} (hj : j ≠ k) :
    (s.flip k).ingressView j = s.ingressView j := by
  obtain ⟨-, hjobs, -⟩ := flipHalves s k hk
  have hcount (kind : JobKind) : (s.flip k).pendingCount j kind = s.pendingCount j kind := hjobs _ (by simp [hj])
  rw [State.ingressView, hcount, hcount, State.flip_ctx hk, if_neg hj]
  rfl

end

/-- What an ingress clock advance leaves (R61, R67), over the state `s` and the contexts `l` whose boundary it crosses. -/
structure IngressAdvanced (s t : State) (l : List Nat) : Prop where
  frame : BoundaryFrame s t
  length : t.ctxs.length = s.ctxs.length
  views : ∀ j, t.ingressView j = if j ∈ l then ingressTurn (s.ingressView j) else s.ingressView j
  quiet : (∀ j ∈ l, Job.mk j .encode ∉ s.engine.jobs ∨ (s.ctx j).edges.uplinkMissed = true) →
    t.ntw = s.ntw ∧ t.pwq = s.pwq

theorem IngressAdvanced.of_foldl {s : State} {l : List Nat} (hl : ∀ k ∈ l, k < s.ctxs.length) (hnodup : l.Nodup) :
    IngressAdvanced s (l.foldl State.flip s) l := by
  have hlen (t : State) (k : Nat) (ht : t.ctxs.length = s.ctxs.length) (_ : k < s.ctxs.length) :
      (t.flip k).ctxs.length = s.ctxs.length := (t.flip_length k).trans ht
  have hother (t : State) (k : Nat) (ht : t.ctxs.length = s.ctxs.length) (hk : k < s.ctxs.length) (j : Nat) (hj : j ≠ k) :
      (t.flip k).ingressView j = t.ingressView j := State.ingressView_flip_of_ne (ht ▸ hk) hj
  refine ⟨?_, ?_, fun j => ?_, fun hquiet => ?_⟩
  · exact BoundaryFrame.foldl (n := s.ctxs.length) (fun t k ht hk => State.flip_boundaryFrame (ht ▸ hk))
      (fun t k ht => (t.flip_length k).trans ht) hl rfl
  · exact List.foldlRecOn l State.flip (motive := fun t => t.ctxs.length = s.ctxs.length) rfl
      fun t ht k _ => (t.flip_length k).trans ht
  · exact foldl_view (view := fun j t => State.ingressView t j) (F := fun _ => ingressTurn) hlen hother
      (fun t k ht hk => State.ingressView_flip_self (ht ▸ hk)) hl hnodup rfl j
  · have hout := foldl_out (view := fun j t => State.ingressView t j) (out := fun t : State => (t.ntw, t.pwq))
      (Q := fun v => ¬ 0 < v.2.1 ∨ v.1.edges.uplinkMissed = true) hlen hother
      (fun t k ht hk h => Prod.ext_iff.mpr
        (And.symm (State.flip_quiet (ht ▸ hk) (h.imp_left (mt State.pendingCount_pos.mpr)))))
      hl hnodup rfl fun j hj => (hquiet j hj).imp_left (mt State.pendingCount_pos.mp)
    exact Prod.ext_iff.mp hout

/-! ### The ingress clock advance -/

section
variable {s : State} {f : Nat}

/-- R61: with position and timer in their ranges, an advance by no step is the move by no step and its empty pass. -/
theorem State.advanceIngress_eq (hpos : s.clocks.inPos < 160) (htimer : s.ntw.timer ≤ 65535) :
    let steps := advanceSteps s.win.frames s.clocks.inFrame f
    s.advanceIngress f = (s.flipping s.clocks.inPos steps).foldl State.flip (s.moveIngress f steps) := by
  intro steps
  by_cases hf : f = s.clocks.inFrame
  · have hsteps : steps = 0 := by
      simp only [steps, advanceSteps, hf]
      rw [show s.clocks.inFrame + s.win.frames - s.clocks.inFrame = s.win.frames by omega, Nat.mod_self]
    have hpasses (b : Nat) : passes s.clocks.inPos 0 b = false := decide_eq_false (Nat.not_lt_zero _)
    have hnone : s.flipping s.clocks.inPos 0 = [] := by
      rw [List.eq_nil_iff_forall_not_mem]
      intro k hk
      simp [State.flipping, State.mem_ctxsWhere, hpasses] at hk
    have hmove : s.moveIngress f 0 = s := by
      rw [State.moveIngress, hf, hpasses, Nat.add_zero, Nat.add_zero, Nat.mod_eq_of_lt hpos, Nat.min_eq_right htimer]
      rfl
    rw [State.advanceIngress, if_pos hf, hsteps, hnone, hmove]
    rfl
  · rw [State.advanceIngress, if_neg hf]

theorem State.mem_flipping {p steps j : Nat} (hsteps : steps < 160) :
    j ∈ s.flipping p steps ↔ (s.ctx j).state = .active ∧ (s.ctx j).cfg.uplink = true ∧
      ∃ i, 1 ≤ i ∧ i ≤ steps ∧ (p + i) % 160 = 20 * ((s.ctx j).cfg.inSlot % 8) := by
  have hpass := passes_iff (p := p) (k := steps) (b := boundary (s.ctx j).cfg.inSlot) (by unfold boundary; omega) hsteps
  rw [State.flipping, State.mem_ctxsWhere, Bool.and_eq_true, Bool.and_eq_true, decide_eq_true_eq, hpass, boundary, and_assoc]
  exact ⟨fun h => h.2, fun h => ⟨s.lt_length_of_active h.1, h⟩⟩

/-- R60, R174: what the range law says of the ingress clock of a RUNNING part. -/
theorem State.ingressClock_inRange (h : s.rangeLaw) (hrun : s.part.state ≠ .idle) :
    s.clocks.inPos < 160 ∧ s.clocks.inFrame < s.win.frames ∧ s.win.frames ≤ 64 ∧ s.ntw.timer ≤ 65535 := by
  obtain ⟨hpos, -, -, -, htimer, hrunning⟩ := h
  have hstate : s.part.state = .running := by
    cases hs : s.part.state with
    | idle => exact absurd hs hrun
    | running => rfl
  obtain ⟨hwin, hframe, -⟩ := hrunning hstate
  obtain ⟨-, -, -, -, hframes, -⟩ := Windows.rangesOk_iff.mp hwin
  exact ⟨hpos, hframe, hframes, htimer⟩

/-- R61: the frame number rises where position 0 is landed on. -/
theorem passes_zero {p k : Nat} (hp : p < 160) (hk : k < 160) : passes p k 0 = true ↔ ¬ p + k < 160 := by
  rw [passes, decide_eq_true_eq]
  omega

end

/-! ### The tap (R66) -/

/-- What taps leave of a record: all but the filling half's codes and talk-seen flag, and the ingress detector. -/
structure Tapped (c d : Context) : Prop where
  frame : d = { c with half0 := d.half0, half1 := d.half1, inDet := d.inDet }
  one : c.fillingOne = true → d.half0 = c.half0 ∧ d.half1.seq = c.half1.seq
  zero : c.fillingOne = false → d.half1 = c.half1 ∧ d.half0.seq = c.half0.seq

section
variable {c d e : Context}

theorem Tapped.refl (c : Context) : Tapped c c := ⟨rfl, fun _ => ⟨rfl, rfl⟩, fun _ => ⟨rfl, rfl⟩⟩

theorem Tapped.fillingOne (h : Tapped c d) : d.fillingOne = c.fillingOne := by rw [h.frame]

theorem Tapped.trans (h : Tapped c d) (h' : Tapped d e) : Tapped c e := by
  refine ⟨?_, fun hc => ?_, fun hc => ?_⟩
  · refine h'.frame.trans ?_
    rw [h.frame]
  · obtain ⟨hhalf, hseq⟩ := h.one hc
    obtain ⟨hhalf', hseq'⟩ := h'.one (h.fillingOne.trans hc)
    exact ⟨hhalf'.trans hhalf, hseq'.trans hseq⟩
  · obtain ⟨hhalf, hseq⟩ := h.zero hc
    obtain ⟨hhalf', hseq'⟩ := h'.zero (h.fillingOne.trans hc)
    exact ⟨hhalf'.trans hhalf, hseq'.trans hseq⟩

theorem Tapped.tap (i : Nat) (b : Byte) (c : Context) : Tapped c (c.tap i b) := by
  unfold Context.tap
  dsimp only
  split
  · rename_i h
    exact ⟨rfl, fun _ => ⟨rfl, rfl⟩, fun h' => absurd (h.symm.trans h') (by decide)⟩
  · rename_i h
    exact ⟨rfl, fun h' => absurd h' h, fun _ => ⟨rfl, rfl⟩⟩

end

/-- What the tap of a write leaves of the state: nothing but records is changed, each only as taps change it, and no record of a
context that is tapped nowhere. -/
structure TapFrame (s t : State) : Prop where
  frame : t = { s with ctxs := t.ctxs }
  length : t.ctxs.length = s.ctxs.length
  tapped : ∀ j, Tapped (s.ctx j) (t.ctx j)
  spared : ∀ j, (∀ ts, j ∉ s.tapSet ts) → t.ctx j = s.ctx j

section
variable {s t u : State}

theorem TapFrame.refl (s : State) : TapFrame s s := ⟨rfl, rfl, fun _ => .refl _, fun _ _ => rfl⟩

theorem TapFrame.tapSet (h : TapFrame s t) (ts : Nat) : t.tapSet ts = s.tapSet ts := by
  rw [h.frame]
  rfl

theorem TapFrame.trans (h : TapFrame s t) (h' : TapFrame t u) : TapFrame s u := by
  refine ⟨?_, h'.length.trans h.length, fun j => (h.tapped j).trans (h'.tapped j), fun j hj => ?_⟩
  · refine h'.frame.trans ?_
    rw [h.frame]
  · rw [h'.spared j fun ts => by rw [h.tapSet]; exact hj ts, h.spared j hj]

theorem TapFrame.modCtx {k : Nat} (f : Context → Context) (hf : ∀ c, Tapped c (f c)) {ts : Nat} (hk : k ∈ s.tapSet ts) :
    TapFrame s (s.modCtx k f) := by
  refine ⟨rfl, s.setCtx_length .., fun j => ?_, fun j hj => s.ctx_modCtx_of_ne f ?_⟩
  · rw [State.modCtx, State.ctx_setCtx]
    split
    · rename_i hjk
      rw [hjk.1]
      exact hf _
    · exact .refl _
  · rintro rfl
    exact hj ts hk

theorem TapFrame.tapByte (s : State) (ts : Nat) (b : Byte) : TapFrame s (s.tapByte ts b) :=
  List.foldlRecOn (s.tapSet ts) _ (motive := TapFrame s) (.refl s) fun _ ht _ hk =>
    ht.trans (TapFrame.modCtx _ (fun _ => Tapped.tap ..) (ts := ts) (ht.tapSet ts ▸ hk))

theorem TapFrame.tapAll (s : State) (cells : List (Nat × Byte)) :
    TapFrame s (cells.foldl (fun s c => s.tapByte ((c.1 - s.win.ingressBase) % s.win.slots) c.2) s) :=
  List.foldlRecOn cells _ (motive := TapFrame s) (.refl s) fun _ ht _ _ => ht.trans (TapFrame.tapByte ..)

end

/-! ### The write -/

/-- R67: a flip in one piece. -/
theorem Context.flipHalves_eq (c : Context) :
    c.flipHalves = { c with
      half0 := if c.fillingOne then { c.half0 with talkSeen := false } else { c.half0 with seq := c.seqCounter }
      half1 := if c.fillingOne then { c.half1 with seq := c.seqCounter } else { c.half1 with talkSeen := false }
      fillingOne := !c.fillingOne, seqCounter := c.seqCounter + 1 } := by
  unfold Context.flipHalves
  cases c.fillingOne <;> rfl

/-- A granted ingress PCM write: the bytes reach memory, the clock advances with its flips over the contexts `l` whose boundary
it crosses, and the bytes are tapped. -/
theorem State.grantWrite_ingress {s : State} {b : WriteBurst} (hrange : s.rangeLaw) (harea : s.areaOf b.addr.toNat = .ingressPcm) :
    let f := (b.addr.toNat - s.win.ingressBase) / s.win.slots
    let k := (f + s.win.frames - s.clocks.inFrame) % s.win.frames
    let moved := (s.writeThrough (burstCells b)).moveIngress f k
    let l := s.flipping s.clocks.inPos k
    k < 64 ∧ ∃ u, IngressAdvanced moved u l ∧
      s.grantWrite b = (burstCells b).foldl (fun s c => s.tapByte ((c.1 - s.win.ingressBase) % s.win.slots) c.2) u := by
  intro f k moved l
  obtain ⟨hrun, -⟩ := State.areaOf_ingressPcm harea
  obtain ⟨hpos, hframe, hframes, htimer⟩ := State.ingressClock_inRange hrange hrun
  have hk : k < s.win.frames := Nat.mod_lt _ (by omega)
  have hin : ∀ j ∈ l, j < moved.ctxs.length := fun j hj => (State.mem_ctxsWhere.mp hj).1
  have hadvance : (s.writeThrough (burstCells b)).advanceIngress f = l.foldl State.flip moved :=
    State.advanceIngress_eq (s := s.writeThrough (burstCells b)) hpos htimer
  refine ⟨by omega, l.foldl State.flip moved, .of_foldl hin (State.nodup_ctxsWhere ..), ?_⟩
  rw [State.grantWrite_of_ingress harea, ← hadvance]
  rfl

/-- What flip and taps leave of the record of a context whose boundary is crossed; `p` says that a job was pending. -/
structure FlippedTapped (p : Prop) (c d : Context) : Prop where
  frame : d = { c with
    half0 := d.half0, half1 := d.half1, fillingOne := d.fillingOne, seqCounter := d.seqCounter, inDet := d.inDet
    counters := { c.counters with uplinkMissed := d.counters.uplinkMissed }
    edges := { c.edges with uplinkMissed := d.edges.uplinkMissed } }
  fillingOne : d.fillingOne = !c.fillingOne
  seqCounter : d.seqCounter = c.seqCounter + 1
  one : c.fillingOne = true → d.half1 = { c.half1 with seq := c.seqCounter } ∧ d.half0.seq = c.half0.seq
  zero : c.fillingOne = false → d.half0 = { c.half0 with seq := c.seqCounter } ∧ d.half1.seq = c.half1.seq
  missed : p → d.counters.uplinkMissed = min (c.counters.uplinkMissed + 1) 65535 ∧ d.edges.uplinkMissed = true
  absent : ¬ p → d.counters = c.counters ∧ d.edges = c.edges

section
variable {c d : Context}

theorem Tapped.flipped (h : Tapped c.flipHalves d) : FlippedTapped False c d := by
  rw [Context.flipHalves_eq] at h
  refine ⟨?_, h.fillingOne, ?_, fun hc => ?_, fun hc => ?_, nofun, fun _ => ⟨?_, ?_⟩⟩
  · rw [h.frame]
  · rw [h.frame]
  · obtain ⟨hhalf, hseq⟩ := h.zero (by simp [hc])
    rw [hhalf, hseq]
    simp [hc]
  · obtain ⟨hhalf, hseq⟩ := h.one (by simp [hc])
    rw [hhalf, hseq]
    simp [hc]
  · rw [h.frame]
  · rw [h.frame]

theorem Tapped.flipped_missed (h : Tapped c.missed.flipHalves d) : FlippedTapped True c d := by
  have hflip := h.flipped
  refine ⟨?_, hflip.fillingOne, hflip.seqCounter, hflip.one, hflip.zero, fun _ => ?_, fun h => absurd trivial h⟩
  · rw [hflip.frame]
    rfl
  · obtain ⟨hcounters, hedges⟩ := hflip.absent id
    rw [hcounters, hedges]
    exact ⟨rfl, rfl⟩

end

/-- Settles O8. -/
theorem ingressWrite : Obligations.IngressWrite := by
  intro s b hb hturn hmem hrange harea f k crossed
  obtain ⟨hk, u, ⟨huframe, -, hviews, hquiet⟩, hgrant⟩ := State.grantWrite_ingress hrange harea
  have hk' : k < 64 := hk
  have hl : ∀ j, j ∈ s.flipping s.clocks.inPos k ↔ crossed j := fun j => State.mem_flipping (by omega)
  have htaps := TapFrame.tapAll u (burstCells b)
  rw [← hgrant] at htaps
  have hexec : exec (.ingressPcmWrite b) s = .next (s.grantWrite b) := exec_masterWrite_of_turn (by simp [writeRows]) hb hturn
  generalize s.grantWrite b = t at hgrant htaps hexec
  have hu : u = _ := huframe
  have ht : t = { s with
      clocks := t.clocks, ctxs := t.ctxs, engine := { s.engine with jobs := t.engine.jobs }, pwq := t.pwq
      mpa := s.mpa.afterMaster, ntw := t.ntw, mem := t.mem } := by
    rw [htaps.frame, hu]
    rfl
  have hwrote : WroteThrough s t (burstCells b) := by
    refine .of_writeThrough hmem.1 (distinctCells_burst b) ?_ ?_ ?_ ?_
    · rw [htaps.frame, hu]; rfl
    · rw [htaps.frame, hu]; rfl
    · rw [ht]
    · rw [ht]
  have hview (j : Nat) : u.ingressView j =
      if j ∈ s.flipping s.clocks.inPos k then ingressTurn (s.ingressView j) else s.ingressView j := hviews j
  have hjobs : t.engine.jobs = u.engine.jobs := by rw [htaps.frame]
  have hflipped (j : Nat) (hj : crossed j) : FlippedTapped (Job.mk j .encode ∈ s.engine.jobs) (s.ctx j) (t.ctx j) := by
    have hctx : u.ctx j = (if 0 < s.pendingCount j .encode then (s.ctx j).missed else s.ctx j).flipHalves := by
      have hturn := hview j
      rw [if_pos ((hl j).mpr hj)] at hturn
      exact congrArg Prod.fst hturn
    have htapped := htaps.tapped j
    rw [hctx] at htapped
    by_cases hpending : Job.mk j .encode ∈ s.engine.jobs
    · rw [if_pos (State.pendingCount_pos.mpr hpending)] at htapped
      simpa only [hpending] using htapped.flipped_missed
    · rw [if_neg (mt State.pendingCount_pos.mp hpending)] at htapped
      simpa only [hpending] using htapped.flipped
  have hkept (j : Nat) (hj : ¬ crossed j) : u.ingressView j = s.ingressView j := by rw [hview, if_neg (mt (hl j).mp hj)]
  have hkept' (j : Nat) (hj : ¬ crossed j) : Tapped (s.ctx j) (t.ctx j) := by
    rw [← show u.ctx j = s.ctx j from congrArg Prod.fst (hkept j hj)]
    exact htaps.tapped j
  refine ⟨t, hexec, ?_, ?_, ht, fun j => ?_, fun j hinactive huntapped => ?_, fun j hj => ?_, fun j hj => ?_, fun j => ?_,
    fun hall => ?_, hwrote.entries, hwrote.superseded, hwrote.wrote, hwrote.beyond, hwrote.kept⟩
  · have hclocks : t.clocks = { s.clocks with
        inPos := (s.clocks.inPos + k) % 160, inFrame := f
        frameNo := if passes s.clocks.inPos k 0 then s.clocks.frameNo + 1 else s.clocks.frameNo } := by
      rw [htaps.frame, hu]
      rfl
    have hpass := passes_zero (p := s.clocks.inPos) (k := k) hrange.1 (by omega)
    rw [hclocks]
    by_cases hnumber : s.clocks.inPos + k < 160
    · rw [if_pos hnumber, if_neg (by rw [hpass]; exact not_not.mpr hnumber)]
    · rw [if_neg hnumber, if_pos (hpass.mpr hnumber)]
  · rw [htaps.frame, hu]
    rfl
  · by_cases hj : crossed j
    · exact (hflipped j hj).frame
    · rw [(hkept' j hj).frame]
  · have hj : ¬ crossed j := fun h => hinactive h.1
    rw [htaps.spared j fun ts => by rw [show u.tapSet ts = s.tapSet ts by rw [hu]; rfl]; exact huntapped ts]
    exact congrArg Prod.fst (hkept j hj)
  · intro c
    have h := hflipped j hj
    refine ⟨h.fillingOne, h.seqCounter, h.one, h.zero, ?_, h.missed, h.absent⟩
    have hturn := hview j
    rw [if_pos ((hl j).mpr hj)] at hturn
    rw [State.pendingCount, hjobs]
    exact congrArg (fun v => v.2.1) hturn
  · intro c
    have h := hkept' j hj
    refine ⟨h.fillingOne, ?_, h.one, h.zero, ?_, ?_, ?_⟩
    · rw [h.frame]
    · rw [State.pendingCount, hjobs]
      exact congrArg (fun v => v.2.1) (hkept j hj)
    · rw [h.frame]
    · rw [h.frame]
  · have hdecode : (u.ingressView j).2.2 = (s.ingressView j).2.2 := by
      rw [hview]
      split <;> rfl
    rw [State.pendingCount, hjobs]
    exact hdecode
  · obtain ⟨hntw, hpwq⟩ := hquiet fun j hj => hall j ((hl j).mp hj)
    rw [htaps.frame]
    dsimp only
    rw [hntw, hpwq]
    exact ⟨rfl, rfl, rfl⟩

end Sys2Proof.Machine

/-! What the tap of an ingress PCM write stores (R66, R40, R47, R80). -/
namespace Sys2Proof.Machine

/-! ### One context's taps -/

/-- The half that is filled (R65). -/
def Context.fillingHalf (c : Context) : Half := if c.fillingOne then c.half1 else c.half0

/-- R66: the detector and the filling half after a byte. -/
def tapStep (cfg : Captured) (i : Nat) (x : Detector × Half) (v : Byte) : Detector × Half :=
  let det := x.1.step cfg (magnitudeIndex cfg.law v)
  (det, { x.2 with codes := x.2.codes.set i v, talkSeen := x.2.talkSeen || decide (det.talk = .talking) })

theorem Context.tap_step (i : Nat) (v : Byte) (c : Context) :
    (c.tap i v).cfg = c.cfg ∧ (c.tap i v).fillingOne = c.fillingOne ∧
      ((c.tap i v).inDet, (c.tap i v).fillingHalf) = tapStep c.cfg i (c.inDet, c.fillingHalf) v := by
  unfold Context.tap Context.fillingHalf tapStep
  cases c.fillingOne with
  | true => simp
  | false => simp

theorem Context.foldl_tap (p : Nat) (bytes : List Byte) (c : Context) :
    let d := bytes.foldl (fun c v => c.tap (sidePosition p c.cfg.inSlot) v) c
    d.fillingOne = c.fillingOne ∧
      (d.inDet, d.fillingHalf) = bytes.foldl (tapStep c.cfg (sidePosition p c.cfg.inSlot)) (c.inDet, c.fillingHalf) := by
  induction bytes generalizing c with
  | nil => exact ⟨rfl, rfl⟩
  | cons v bytes ih =>
    obtain ⟨hcfg, hfilling, hstep⟩ := c.tap_step (sidePosition p c.cfg.inSlot) v
    obtain ⟨hfold, hpair⟩ := ih (c.tap (sidePosition p c.cfg.inSlot) v)
    rw [List.foldl_cons, List.foldl_cons, ← hstep]
    rw [hcfg] at hpair
    exact ⟨hfold.trans hfilling, hpair⟩

/-! ### The bytes of a write -/

section
variable {s : State}

/-- R66, R80: a byte is tapped into exactly the contexts of its tap set. -/
theorem State.ctx_tapByte {ts : Nat} (hnodup : (s.tapSet ts).Nodup) (hin : ∀ j ∈ s.tapSet ts, j < s.ctxs.length) (v : Byte)
    (j : Nat) :
    (s.tapByte ts v).ctx j =
      if j ∈ s.tapSet ts then (s.ctx j).tap (sidePosition s.clocks.inPos (s.ctx j).cfg.inSlot) v else s.ctx j := by
  refine foldl_view (f := fun s k => s.modCtx k fun c => c.tap (s.inPosition c) v) (view := fun j t => State.ctx t j)
    (P := fun t => t.ctxs.length = s.ctxs.length ∧ t.clocks = s.clocks) (R := fun k => k < s.ctxs.length)
    (F := fun _ c => c.tap (sidePosition s.clocks.inPos c.cfg.inSlot) v) (fun t k ht _ => ?_) (fun t k ht _ i hi => ?_)
    (fun t k ht hk => ?_) hin hnodup ⟨rfl, rfl⟩ j
  · exact ⟨(t.setCtx_length ..).trans ht.1, ht.2⟩
  · exact t.ctx_modCtx_of_ne _ hi
  · rw [t.ctx_modCtx_self _ (by omega), State.inPosition, ht.2]

/-- The bytes of a write, in the order of their addresses, are tapped so one after another. -/
theorem State.ctx_tapAll (hnodup : ∀ ts, (s.tapSet ts).Nodup) (hin : ∀ ts, ∀ j ∈ s.tapSet ts, j < s.ctxs.length)
    (cells : List (Nat × Byte)) (j : Nat) :
    (cells.foldl (fun s c => s.tapByte ((c.1 - s.win.ingressBase) % s.win.slots) c.2) s).ctx j =
      ((cells.filter fun x => decide (j ∈ s.tapSet ((x.1 - s.win.ingressBase) % s.win.slots))).map (·.2)).foldl
        (fun c v => c.tap (sidePosition s.clocks.inPos c.cfg.inSlot) v) (s.ctx j) := by
  induction cells generalizing s with
  | nil => rfl
  | cons c cells ih =>
    have hstep := TapFrame.tapByte s ((c.1 - s.win.ingressBase) % s.win.slots) c.2
    have hsame : (s.tapByte ((c.1 - s.win.ingressBase) % s.win.slots) c.2).win = s.win ∧
        (s.tapByte ((c.1 - s.win.ingressBase) % s.win.slots) c.2).clocks = s.clocks := by
      rw [hstep.frame]
      exact ⟨rfl, rfl⟩
    rw [List.foldl_cons, ih (fun ts => by rw [hstep.tapSet]; exact hnodup ts)
      (fun ts i hi => by rw [hstep.length]; rw [hstep.tapSet] at hi; exact hin ts i hi), hsame.1, hsame.2,
      State.ctx_tapByte (hnodup _) (hin _)]
    simp only [hstep.tapSet]
    by_cases hj : j ∈ s.tapSet ((c.1 - s.win.ingressBase) % s.win.slots)
    · rw [if_pos hj, List.filter_cons_of_pos (by simpa using hj), List.map_cons, List.foldl_cons]
    · rw [if_neg hj, List.filter_cons_of_neg (by simpa using hj)]

end

/-- R67: what a flip leaves of the tapped part of a record. -/
theorem Context.flipHalves_tapped (c : Context) :
    c.flipHalves.cfg = c.cfg ∧ c.flipHalves.fillingOne = !c.fillingOne ∧ c.flipHalves.inDet = c.inDet ∧
      c.flipHalves.fillingHalf = { (if c.fillingOne then c.half0 else c.half1) with talkSeen := false } := by
  rw [Context.flipHalves_eq]
  refine ⟨rfl, rfl, rfl, ?_⟩
  unfold Context.fillingHalf
  cases c.fillingOne <;> rfl

/-- Settles O9. -/
theorem tapStoresByte : Obligations.TapStoresByte := by
  refine ⟨?_, ?_⟩
  · intro s b a v hb hturn hrange harea hcells hcurrent taps hnodup hin
    have hgrant : s.grantWrite b = (s.writeThrough (burstCells b)).tapByte ((a - s.win.ingressBase) % s.win.slots) v := by
      have hstay : (s.writeThrough (burstCells b)).advanceIngress ((b.addr.toNat - s.win.ingressBase) / s.win.slots) =
          s.writeThrough (burstCells b) := if_pos hcurrent
      have hwrite : s.grantWrite b = (burstCells b).foldl
          (fun s c => s.tapByte ((c.1 - s.win.ingressBase) % s.win.slots) c.2)
          ((s.writeThrough (burstCells b)).advanceIngress ((b.addr.toNat - s.win.ingressBase) / s.win.slots)) :=
        State.grantWrite_of_ingress harea
      rw [hwrite, hstay, hcells]
      rfl
    have hctx (j : Nat) : (s.grantWrite b).ctx j =
        if j ∈ taps then (s.ctx j).tap (sidePosition s.clocks.inPos (s.ctx j).cfg.inSlot) v else s.ctx j := by
      rw [hgrant]
      exact State.ctx_tapByte (s := s.writeThrough (burstCells b)) hnodup hin v j
    refine ⟨_, exec_masterWrite_of_turn (by simp [writeRows]) hb hturn, ?_, fun k hk => ?_, fun k hk => ?_⟩
    · rw [hgrant, (TapFrame.tapByte ..).frame]
      rfl
    · rw [hctx, if_neg hk]
    · rw [hctx, if_pos hk]
      rfl
  · intro s b hb hturn hrange harea hnodup hin f k crossed
    obtain ⟨hk, u, ⟨huframe, hulength, hviews, -⟩, hgrant⟩ := State.grantWrite_ingress hrange harea
    have hk' : k < 64 := hk
    have hl : ∀ j, j ∈ s.flipping s.clocks.inPos k ↔ crossed j := fun j => State.mem_flipping (by omega)
    refine ⟨_, exec_masterWrite_of_turn (by simp [writeRows]) hb hturn, fun j => ?_⟩
    intro c bytes pos tapped filling other fillingAfter
    have hu : u = _ := huframe
    have htapSet (ts : Nat) : u.tapSet ts = s.tapSet ts := by rw [hu]; rfl
    have hwin : u.win = s.win := by rw [hu]; rfl
    have hpos : u.clocks.inPos = (s.clocks.inPos + k) % 160 := by rw [hu]; rfl
    have hctx : (s.grantWrite b).ctx j =
        bytes.foldl (fun c v => c.tap (sidePosition ((s.clocks.inPos + k) % 160) c.cfg.inSlot) v) (u.ctx j) := by
      have hall := State.ctx_tapAll (s := u) (fun ts => by rw [htapSet]; exact hnodup ts)
        (fun ts i hi => by rw [hulength]; rw [htapSet] at hi; exact hin ts i hi) (burstCells b) j
      simp only [htapSet, hwin, hpos] at hall
      rw [hgrant]
      exact hall
    obtain ⟨hfilling, hpair⟩ := Context.foldl_tap ((s.clocks.inPos + k) % 160) bytes (u.ctx j)
    rw [← hctx] at hfilling hpair
    have hview : u.ingressView j =
        if j ∈ s.flipping s.clocks.inPos k then ingressTurn (s.ingressView j) else s.ingressView j := hviews j
    refine ⟨fun hj => ?_, fun hj => ?_⟩
    · have hkeep : u.ctx j = c := by
        rw [if_neg (mt (hl j).mp hj)] at hview
        exact congrArg Prod.fst hview
      rw [hkeep] at hfilling hpair
      exact ⟨hfilling, Prod.ext_iff.mp hpair⟩
    · have hflip : (u.ctx j).cfg = c.cfg ∧ (u.ctx j).fillingOne = !c.fillingOne ∧ (u.ctx j).inDet = c.inDet ∧
          (u.ctx j).fillingHalf = { other with talkSeen := false } := by
        rw [if_pos ((hl j).mpr hj)] at hview
        have hturn : u.ctx j = (if 0 < s.pendingCount j .encode then c.missed else c).flipHalves := congrArg Prod.fst hview
        rw [hturn]
        split
        · exact c.missed.flipHalves_tapped
        · exact c.flipHalves_tapped
      obtain ⟨hcfg, hone, hdet, hhalf⟩ := hflip
      rw [hcfg, hdet, hhalf] at hpair
      exact ⟨hfilling.trans hone, Prod.ext_iff.mp hpair⟩

end Sys2Proof.Machine

/-! The part's own steps come to an end (R134, R152, R169): each of them lowers a weight. -/
namespace Sys2Proof.Machine

/-! ### Requests -/

/-- At most `n` small groups that are no egress frame groups join the order; the queue, the pending jobs, the grant counters and
the timeout latch keep. -/
structure Requested (n : Nat) (s t : State) : Prop where
  groups : ∃ gs, t.pwq.waiting = s.pwq.waiting ++ gs ∧ gs.length ≤ n ∧ ∀ g ∈ gs, g.isEgress = false ∧ g.size ≤ 9
  entries : t.pwq.entries = s.pwq.entries
  jobs : t.engine.jobs = s.engine.jobs
  mpa : t.mpa = s.mpa
  latch : t.ntw.latch = s.ntw.latch

section
variable {s t u : State} {m n : Nat}

theorem Requested.of_waiting (hpwq : t.pwq = s.pwq) (hjobs : t.engine.jobs = s.engine.jobs) (hmpa : t.mpa = s.mpa)
    (hlatch : t.ntw.latch = s.ntw.latch) : Requested n s t :=
  ⟨⟨[], by simp [hpwq]⟩, by rw [hpwq], hjobs, hmpa, hlatch⟩

theorem Requested.refl (s : State) : Requested n s s := .of_waiting rfl rfl rfl rfl

theorem Requested.trans (h : Requested m s t) (h' : Requested n t u) : Requested (m + n) s u := by
  obtain ⟨gs, hgs, hlen, hsmall⟩ := h.groups
  obtain ⟨gs', hgs', hlen', hsmall'⟩ := h'.groups
  refine ⟨⟨gs ++ gs', ?_, ?_, List.forall_mem_append.mpr ⟨hsmall, hsmall'⟩⟩, h'.entries.trans h.entries,
    h'.jobs.trans h.jobs, h'.mpa.trans h.mpa, h'.latch.trans h.latch⟩
  · rw [hgs', hgs, List.append_assoc]
  · rw [List.length_append]
    omega

theorem Requested.mono (h : Requested m s t) (hmn : m ≤ n) : Requested n s t := by
  obtain ⟨gs, hgs, hlen, hsmall⟩ := h.groups
  exact ⟨⟨gs, hgs, by omega, hsmall⟩, h.entries, h.jobs, h.mpa, h.latch⟩

theorem Requested.modCtx (s : State) (k : Nat) (f : Context → Context) : Requested 0 s (s.modCtx k f) :=
  .of_waiting rfl rfl rfl rfl

theorem Requested.requestGroup (s : State) {g : Group} (hg : g.isEgress = false) (hsize : g.size ≤ 9) :
    Requested 1 s (s.requestGroup g) :=
  ⟨⟨[g], rfl, Nat.le_refl 1, by simpa using ⟨hg, hsize⟩⟩, rfl, rfl, rfl, rfl⟩

theorem Requested.placeNotice (s : State) (kind : NoticeKind) (ctx detail : Nat) {l : List Nat} (hl : l.length = 9) :
    Requested 1 s (s.placeNotice kind ctx detail l) := by
  unfold State.placeNotice
  split
  · exact .of_waiting rfl rfl rfl rfl
  · refine ⟨⟨[_], rfl, Nat.le_refl 1, ?_⟩, rfl, rfl, rfl, rfl⟩
    simp [Group.isEgress, Group.size, length_groupOrder, length_noticeBytes hl]

/-- R124: an examination requests at most one notice. -/
theorem Requested.examineLow (s : State) : Requested 1 s s.examineLow := by
  obtain h | ⟨p, kind, h⟩ := s.examineLow_cases
  · rw [h]
    exact .refl s
  · rw [h]
    exact Requested.mono (Requested.trans (m := 0) (t := { s with pool := p }) (.of_waiting rfl rfl rfl rfl)
      (.placeNotice _ _ _ _ (l := noCounters) rfl)) (by omega)

theorem Requested.returnBlocks (s : State) (n : Nat) : Requested 1 s (s.returnBlocks n) :=
  Requested.mono (Requested.trans (m := 0) (t := { s with pool := { s.pool with free := s.pool.free + n } })
    (.of_waiting rfl rfl rfl rfl) (.examineLow _)) (by omega)

theorem Requested.takeBlocks (s : State) (n : Nat) : Requested 1 s (s.takeBlocks n) :=
  Requested.mono (Requested.trans (m := 0) (t := { s with pool := { s.pool with free := s.pool.free - n } })
    (.of_waiting rfl rfl rfl rfl) (.examineLow _)) (by omega)

end

/-! ### What a due step does to the order -/

/-- The due steps by what they do to the order of waiting groups, to the pending jobs and to the timeout latch. -/
inductive DueShape (s t : State) : Prop
  | admission (g : Group) (rest : List Group) (hw : s.pwq.waiting = g :: rest) (hwaiting : t.pwq.waiting = rest)
      (hentries : t.pwq.entries.length = s.pwq.entries.length + g.size) (hjobs : t.engine.jobs = s.engine.jobs)
      (hmpa : t.mpa = s.mpa) (hlatch : t.ntw.latch = s.ntw.latch)
  | discard (g : Group) (rest : List Group) (u : State) (hw : s.pwq.waiting = g :: rest) (hg : g.isEgress = true)
      (hwaiting : u.pwq.waiting = rest.map (Group.moveBack s.win.ne)) (hentries : u.pwq.entries = s.pwq.entries)
      (hjobs : u.engine.jobs = s.engine.jobs) (hmpa : u.mpa = s.mpa) (hlatch : u.ntw.latch = s.ntw.latch)
      (hrequest : Requested 2 u t)
  | quiet (hclear : s.ntw.latch = false) (hset : t.ntw.latch = true) (hpwq : t.pwq = s.pwq)
      (hjobs : t.engine.jobs = s.engine.jobs) (hmpa : t.mpa = s.mpa)
  | start (u : State) (hrequest : Requested 1 s u) (hpwq : t.pwq = u.pwq) (hmpa : t.mpa = u.mpa)
      (hlatch : t.ntw.latch = u.ntw.latch) (hjobs : t.engine.jobs.length < s.engine.jobs.length)

section
variable {s : State}

theorem State.enterHead_shape {g : Group} {rest : List Group} (hw : s.pwq.waiting = g :: rest)
    (hopen : s.groupClosing g = false) : DueShape s s.enterHead := by
  have hpwq := State.enterHead_pwq hw hopen
  have hkeep : s.enterHead.engine.jobs = s.engine.jobs ∧ s.enterHead.mpa = s.mpa ∧ s.enterHead.ntw.latch = s.ntw.latch := by
    cases g with
    | egress k slot ws =>
      rw [State.enterHead_of_egress hw (State.groupClosing_eq_false_iff.mp hopen k slot ws rfl), State.examineReady_erw]
      exact ⟨rfl, rfl, rfl⟩
    | notice ws => simp only [State.enterHead, hw]; exact ⟨rfl, rfl, rfl⟩
    | status w => simp only [State.enterHead, hw]; exact ⟨rfl, rfl, rfl⟩
    | indexReset ws => simp only [State.enterHead, hw]; exact ⟨rfl, rfl, rfl⟩
  obtain ⟨hjobs, hmpa, hlatch⟩ := hkeep
  refine .admission g rest hw (by rw [hpwq]) ?_ hjobs hmpa hlatch
  rw [hpwq, List.length_append, State.length_groupWords]

theorem State.discardHead_shape {g : Group} {rest : List Group} (hw : s.pwq.waiting = g :: rest)
    (hclosing : s.groupClosing g = true) : DueShape s s.discardHead := by
  cases g with
  | notice | status | indexReset => cases hclosing
  | egress k slot ws =>
    have hstate : (s.ctx k).state = .closing := by simpa [State.groupClosing] using hclosing
    let x : State := { s with
      pwq := { s.pwq with waiting := rest.map (Group.moveBack s.win.ne) }, erw := { s.erw with waiting := s.erw.waiting - 1 } }
    have hdiscard : s.discardHead = (x.freeLane k .encode).drainEnd k := by
      have hx : s.discardHead = x.completeEncode k := by simp only [State.discardHead, hw, x]
      rw [hx]
      exact State.completeEncode_of_not_active (show (s.ctx k).state ≠ .active by simp [hstate])
    refine .discard _ rest x hw rfl rfl rfl rfl rfl rfl ?_
    have hfreed : Requested 0 x (x.freed k .encode) := .of_waiting rfl rfl rfl rfl
    rw [hdiscard, State.freeLane_drainEnd]
    split
    · have hstatus := Requested.requestGroup (x.freed k .encode)
        (g := .status ((x.freed k .encode).statusWord (descriptor k + 4) .done (x.ctx k).closeTag (x.ctx k).closeCode
          ((x.freed k .encode).ctx k).state.code)) rfl (show 1 ≤ 9 by decide)
      exact ((hfreed.trans hstatus).trans (.placeNotice _ _ _ _ (l := noCounters) rfl)).mono (by omega)
    · exact hfreed.mono (by omega)

theorem filter_ne_length_lt {j : Job} {l : List Job} (h : j ∈ l) : (l.filter fun i => decide (i ≠ j)).length < l.length :=
  List.length_filter_lt_length_iff_exists.mpr ⟨j, h, by simp⟩

theorem State.startJob_shape {j : Job} (hchosen : s.chosenJob = some j) : DueShape s (s.startJob j) := by
  obtain ⟨-, ⟨hj, -⟩, -⟩ := State.chosenJob_first hchosen
  obtain ⟨k, kind⟩ := j
  have hjobs := filter_ne_length_lt hj
  cases kind with
  | encode =>
    have hstart : s.startJob { ctx := k, kind := .encode } = s.startEncode k := rfl
    rw [hstart, State.startEncode_eq]
    exact .start s (.refl s) rfl rfl rfl hjobs
  | decode =>
    have hu : Requested 1 s (s.takePlayout k) := by
      rw [State.takePlayout_eq]
      split
      · exact (Requested.modCtx s k _).mono (by omega)
      · exact (Requested.modCtx s k _).trans (.returnBlocks _ _)
    have hstart : s.startJob { ctx := k, kind := .decode } = { s.takePlayout k with
        ctxs := (s.takePlayout k).ctxs.set k ((s.takePlayout k).ctx k).startJob
        engine := (s.takePlayout k).engine.take (.decode (s.decodeCopies k)) } :=
      (s.takePlayout k).occupyLane_eq (.decode (s.decodeCopies k))
    rw [hstart]
    refine .start (s.takePlayout k) hu rfl rfl rfl ?_
    rw [Engine.take, hu.jobs]
    exact hjobs

theorem State.takeDue_shape {d : DueStep} (h : s.dueStep = some d) : DueShape s (s.takeDue d) := by
  obtain ⟨g, rest, hw, ⟨rfl, hclosing⟩ | ⟨rfl, hopen, -⟩⟩ | ⟨rfl, hquiet⟩ | ⟨j, rfl, hchosen⟩ := State.dueStep_cases h
  · exact State.discardHead_shape hw hclosing
  · exact State.enterHead_shape hw hopen
  · exact .quiet (State.quietDue_iff.mp hquiet).1 rfl rfl rfl rfl
  · exact State.startJob_shape hchosen

end

end Sys2Proof.Machine

/-! The part's own steps come to an end in every state (R134, R152, R169). -/
namespace Sys2Proof.Machine

/-! ### Weights of the order -/

/-- The weights of the waiting groups, added up. -/
def State.orderWeight (w : Group → Nat) (s : State) : Nat := (s.pwq.waiting.map w).sum

section
variable {s t u : State} {n c : Nat} {w : Group → Nat} {g : Group} {rest : List Group}

theorem State.orderWeight_eq (hw : s.pwq.waiting = g :: rest) : s.orderWeight w = w g + (rest.map w).sum := by
  rw [State.orderWeight, hw, List.map_cons, List.sum_cons]

theorem State.orderWeight_congr (h : t.pwq = s.pwq) : t.orderWeight w = s.orderWeight w := by
  rw [State.orderWeight, h, State.orderWeight]

theorem sum_map_moveBack (hw : ∀ ne g, w (g.moveBack ne) = w g) (ne : Nat) :
    ((rest.map (Group.moveBack ne)).map w).sum = (rest.map w).sum := by
  rw [List.map_map]
  exact congrArg List.sum (List.map_congr_left fun g _ => hw ne g)

/-- Requests raise the order's weight by no more than their own. -/
theorem Requested.orderWeight_le (h : Requested n s t) (hw : ∀ g : Group, g.isEgress = false → g.size ≤ 9 → w g ≤ c) :
    t.orderWeight w ≤ s.orderWeight w + n * c := by
  obtain ⟨gs, hgs, hlen, hsmall⟩ := h.groups
  have hsum : (gs.map w).sum ≤ gs.length * c := by
    simpa using List.sum_le_card_nsmul (gs.map w) c (by simpa using fun g hg => hw g (hsmall g hg).1 (hsmall g hg).2)
  have hn : gs.length * c ≤ n * c := Nat.mul_le_mul_right c hlen
  simp only [State.orderWeight, hgs, List.map_append, List.sum_append]
  omega

end

/-! ### The due steps left -/

/-- The due steps a waiting group can still cause: its own, and two requests at the discard of an egress frame group. -/
def Group.dueWork (g : Group) : Nat := if g.isEgress then 3 else 1

/-- The due steps a state can still have. -/
def State.dueWork (s : State) : Nat :=
  s.orderWeight Group.dueWork + 2 * s.engine.jobs.length + if s.ntw.latch then 0 else 1

theorem Group.dueWork_moveBack (ne : Nat) (g : Group) : (g.moveBack ne).dueWork = g.dueWork := by
  cases g <;> rfl

theorem Group.dueWork_of_isEgress {g : Group} (h : g.isEgress = true) : g.dueWork = 3 := if_pos h

theorem Group.dueWork_of_other {g : Group} (h : g.isEgress = false) : g.dueWork = 1 := by simp [Group.dueWork, h]

theorem Group.dueWork_bounds (g : Group) : 1 ≤ g.dueWork ∧ g.dueWork ≤ 3 := by
  cases g <;> simp [Group.dueWork, Group.isEgress]

section
variable {s t : State}

theorem Requested.dueWork_le {n : Nat} (h : Requested n s t) : t.dueWork ≤ s.dueWork + n := by
  have horder := h.orderWeight_le (c := 1) fun g hg _ => (Group.dueWork_of_other hg).le
  simp only [State.dueWork, h.jobs, h.latch]
  omega

/-- A due step leaves fewer due steps. -/
theorem DueShape.dueWork_lt (h : DueShape s t) : t.dueWork < s.dueWork := by
  cases h with
  | admission g rest hw hwaiting _ hjobs _ hlatch =>
    have hs := State.orderWeight_eq (w := Group.dueWork) hw
    have ht : t.orderWeight Group.dueWork = (rest.map Group.dueWork).sum := by rw [State.orderWeight, hwaiting]
    have hg := g.dueWork_bounds
    simp only [State.dueWork, hjobs, hlatch]
    omega
  | discard g rest u hw hg hwaiting _ hjobs _ hlatch hrequest =>
    have hs := State.orderWeight_eq (w := Group.dueWork) hw
    have hu : u.orderWeight Group.dueWork = (rest.map Group.dueWork).sum := by
      rw [State.orderWeight, hwaiting, sum_map_moveBack Group.dueWork_moveBack]
    have ht := hrequest.dueWork_le
    have hegress := Group.dueWork_of_isEgress hg
    simp only [State.dueWork, hjobs, hlatch] at ht ⊢
    omega
  | quiet hclear hset hpwq hjobs _ =>
    simp [State.dueWork, State.orderWeight_congr hpwq, hjobs, hclear, hset]
  | start u hrequest hpwq _ hlatch hjobs =>
    have hu := hrequest.dueWork_le
    have hrunning := hrequest.jobs
    simp only [State.dueWork, State.orderWeight_congr hpwq, hlatch, hrunning] at hu ⊢
    omega

theorem State.dueWork_le_dueBound (s : State) : s.dueWork ≤ s.dueBound := by
  have horder : s.orderWeight Group.dueWork ≤ s.pwq.waiting.length * 3 := by
    simpa [State.orderWeight] using
      List.sum_le_card_nsmul (s.pwq.waiting.map Group.dueWork) 3 (by simpa using fun g _ => g.dueWork_bounds.2)
  unfold State.dueWork State.dueBound
  split <;> omega

/-- With enough fuel for the due steps left, settling ends where none is due. -/
theorem State.settled_settleUpTo {n : Nat} : ∀ {s : State}, s.dueWork ≤ n → (State.settleUpTo n s).settled := by
  induction n with
  | zero =>
    intro s hn
    refine Option.eq_none_iff_forall_ne_some.mpr fun d hd => ?_
    have hlt : (s.takeDue d).dueWork < s.dueWork := (State.takeDue_shape hd).dueWork_lt
    omega
  | succ n ih =>
    intro s hn
    simp only [State.settleUpTo]
    split
    · assumption
    · rename_i d hd
      have hlt := (State.takeDue_shape hd).dueWork_lt
      exact ih (by omega)

theorem State.settled_settle (s : State) : s.settle.settled := State.settled_settleUpTo s.dueWork_le_dueBound

theorem State.settle_settle (s : State) : s.settle.settle = s.settle := State.settle_of_settled s.settled_settle

/-! ### The rows that act on the settled state -/

theorem State.exec_drain_settle (s : State) : exec .drain s.settle = exec .drain s := by
  simp only [exec, execDrain, State.settle_settle]

theorem State.exec_fetchHeaderRead_settle (s : State) : exec .fetchHeaderRead s.settle = exec .fetchHeaderRead s := by
  simp only [exec, execFetchHeaderRead, State.settle_settle]

theorem State.exec_fetchBodyRead_settle (s : State) : exec .fetchBodyRead s.settle = exec .fetchBodyRead s := by
  simp only [exec, execFetchBodyRead, State.settle_settle]

theorem State.exec_encodeEndOfWork_settle (s : State) (k : Nat) :
    exec (.encodeEndOfWork k) s.settle = exec (.encodeEndOfWork k) s := by
  simp only [exec, execEncodeEndOfWork, State.settle_settle]

theorem State.exec_decodeJobCompletion_settle (s : State) (k : Nat) :
    exec (.decodeJobCompletion k) s.settle = exec (.decodeJobCompletion k) s := by
  simp only [exec, execDecodeJobCompletion, State.settle_settle]

/-- Where no due step is left, none of the three kinds is. -/
theorem State.settled_iff : s.settled ↔ s.orderRests ∧ ¬ s.timeoutMet ∧ s.chosenJob = none := by
  rw [← State.dueGroup_eq_none_iff, ← State.quietDue_iff]
  change s.dueStep = none ↔ _
  unfold State.dueStep
  cases s.dueGroup <;> cases s.quietDue <;> simp

end

/-- Settles O50: each due step lowers the weight of what is waiting, which the model's bound covers. -/
theorem everyEventSettles : Obligations.EveryEventSettles := by
  intro s u
  have hsettled : u.settled := s.settled_settle
  obtain ⟨hrests, htimeout, hchosen⟩ := State.settled_iff.mp hsettled
  refine ⟨hsettled, hrests, htimeout, (State.chosenJob_eq_none hchosen).imp_right fun hnone j hj => ?jobs, fun i hi => ?rows,
    fun k => ⟨?encode, ?decode⟩⟩
  case jobs =>
    have hnot := State.eligible_iff.not.mp (hnone j hj)
    obtain ⟨hkind, hruns⟩ := not_or.mp hnot
    refine ⟨?_, by simpa using hruns⟩
    cases hj : j.kind with
    | encode => rfl
    | decode => exact absurd hj hkind
  case rows =>
    simp only [List.mem_cons, List.not_mem_nil, or_false] at hi
    obtain rfl | rfl | rfl := hi
    · exact s.exec_drain_settle.symm
    · exact s.exec_fetchHeaderRead_settle.symm
    · exact s.exec_fetchBodyRead_settle.symm
  case encode => exact (s.exec_encodeEndOfWork_settle k).symm
  case decode => exact (s.exec_decodeJobCompletion_settle k).symm

end Sys2Proof.Machine

/-! What a grant of the port to the FFU asks for (R115, R116, R118): at most four notices. -/
namespace Sys2Proof.Machine

/-! ### The releases of a catch-up (R124, R129) -/

/-- The notices that returns of blocks alone can still cause: POOL_LOW once where LOW is clear below its threshold, and
POOL_RECOVERED once. -/
def State.lowBudget (s : State) : Nat := if s.pool.low then 1 else if s.pool.free < 512 then 2 else 0

section
variable {s : State} {k : Nat}

theorem State.lowBudget_le (s : State) : s.lowBudget ≤ 2 := by
  unfold State.lowBudget
  split
  · omega
  · split <;> omega

/-- Both sides of R124's examination, with the notices still to come. -/
theorem State.examineLow_requested (s : State) :
    ∃ m, Requested m s s.examineLow ∧ m + s.examineLow.lowBudget ≤ s.lowBudget := by
  have hplaced (p : Pool) (kind : NoticeKind) :
      Requested 1 s ({ s with pool := p }.placeNotice kind partWide s.pool.free noCounters) :=
    Requested.mono (Requested.trans (m := 0) (t := { s with pool := p }) (.of_waiting rfl rfl rfl rfl)
      (.placeNotice _ _ _ _ (l := noCounters) rfl)) (by omega)
  unfold State.examineLow
  split
  · rename_i h
    obtain ⟨hlow, hfree⟩ : s.pool.low = false ∧ s.pool.free < 512 := by simpa using h
    refine ⟨1, hplaced _ _, ?_⟩
    simp [State.lowBudget, State.placeNotice_pool, hlow, hfree]
  · split
    · rename_i h
      obtain ⟨hlow, hfree⟩ : s.pool.low = true ∧ 1024 ≤ s.pool.free := by simpa using h
      refine ⟨1, hplaced _ _, ?_⟩
      have hhigh : ¬ s.pool.free < 512 := by omega
      simp [State.lowBudget, State.placeNotice_pool, hlow, hhigh]
    · exact ⟨0, .refl s, by omega⟩

theorem State.returnBlocks_requested (s : State) (n : Nat) :
    ∃ m, Requested m s (s.returnBlocks n) ∧ m + (s.returnBlocks n).lowBudget ≤ s.lowBudget := by
  obtain ⟨m, hrequest, hbudget⟩ := State.examineLow_requested { s with pool := { s.pool with free := s.pool.free + n } }
  have hraise : ({ s with pool := { s.pool with free := s.pool.free + n } } : State).lowBudget ≤ s.lowBudget := by
    simp only [State.lowBudget]
    split
    · omega
    · split
      · rw [if_pos (by omega)]
      · omega
  refine ⟨0 + m, Requested.trans (t := { s with pool := { s.pool with free := s.pool.free + n } })
    (.of_waiting rfl rfl rfl rfl) hrequest, ?_⟩
  change 0 + m + (State.examineLow { s with pool := { s.pool with free := s.pool.free + n } }).lowBudget ≤ _
  omega

theorem State.returnEach_requested (es : List PlayEntry) : ∀ s : State, Requested s.lowBudget s (s.returnEach es) := by
  induction es with
  | nil => exact fun s => .refl s
  | cons e es ih =>
    intro s
    obtain ⟨m, hfirst, hbudget⟩ := s.returnBlocks_requested e.blocks
    exact (hfirst.trans (ih (s.returnBlocks e.blocks))).mono hbudget

/-! ### Offers, refusals and disposals (R118, R120, R126 to R129) -/

theorem State.offer_requested (s : State) (k : Nat) (e : PlayEntry) : Requested 3 s (s.offer k e) := by
  obtain hunset | ⟨x, hx⟩ := Option.eq_none_or_eq_some (s.ctx k).expected
  · rw [State.offer_of_unset hunset]
    exact ((Requested.takeBlocks s _).trans (.modCtx _ _ _)).mono (by omega)
  · by_cases hlate : 128 ≤ distance x e.seq ∨ ∃ o ∈ (s.ctx k).playout, o.seq = e.seq
    · rw [State.offer_of_late hx hlate]
      exact (Requested.modCtx s k _).mono (by omega)
    · obtain ⟨hearly, hnew⟩ := not_or.mp hlate
      replace hearly := not_le.mp hearly
      replace hnew : ∀ o ∈ (s.ctx k).playout, o.seq ≠ e.seq := by simpa using hnew
      by_cases hnear : distance x e.seq < (s.ctx k).cfg.q
      · rw [State.offer_of_near hx hnew hnear hearly]
        exact ((Requested.takeBlocks s _).trans (.modCtx _ _ _)).mono (by omega)
      · rw [State.offer_of_far hx hnew (not_lt.mp hnear) hearly]
        have hbudget := s.lowBudget_le
        exact (((State.returnEach_requested _ s).trans (.takeBlocks _ _)).trans (.modCtx _ _ _)).mono (by omega)

theorem State.reject_requested (s : State) (k detail : Nat) : Requested 1 s (s.reject k detail) := by
  have hcount : Requested 0 s (s.count k fun n => { n with rejected := satInc n.rejected }) := .modCtx s k _
  refine (hcount.trans (n := 1) ?_).mono (by omega)
  rw [State.reject, State.noticeRejected]
  split
  · exact .refl _
  · exact ((Requested.modCtx _ k _).trans (.placeNotice _ _ _ _ (l := noCounters) rfl)).mono (by omega)

theorem State.dispose_requested (s : State) (tag length : Nat) (frame : List Byte) :
    Requested 3 s (s.dispose tag length frame) := by
  obtain htag | ⟨k, htag⟩ := Option.eq_none_or_eq_some (s.lookupTag tag)
  · rw [State.dispose_of_unknown htag]
    exact .refl s
  · have hreceive : Requested 0 s (s.modCtx k Context.receive) := .modCtx s k _
    obtain hform | ⟨type, hform⟩ := Option.eq_none_or_eq_some (frameForm length frame)
    · rw [State.dispose_of_malformed htag hform]
      exact (hreceive.trans (State.reject_requested _ _ _)).mono (by omega)
    · by_cases hfree : s.pool.free < type.blocks
      · rw [State.dispose_of_too_large htag hform hfree]
        exact (hreceive.trans (State.reject_requested _ _ _)).mono (by omega)
      · rw [State.dispose_of_fits htag hform (not_lt.mp hfree)]
        exact (hreceive.trans (State.offer_requested _ _ _)).mono (by omega)

/-! ### The reads of a fetch (R115, R116) -/

theorem State.fetchDone_requested (s : State) (f : Fetch) : Requested 0 s (s.fetchDone f) := .of_waiting rfl rfl rfl rfl

theorem State.fetchGoesOn_requested (s : State) (f : Fetch) (phase : FetchPhase) : Requested 0 s (s.fetchGoesOn f phase) :=
  .of_waiting rfl rfl rfl rfl

theorem State.headerTaken_requested (s : State) (f : Fetch) (bytes : List Byte) : Requested 3 s (s.headerTaken f bytes) := by
  have hdone := (s.fetchDone_requested f).mono (n := 3) (by omega)
  unfold State.headerTaken
  extract_lets length tag
  split
  · exact hdone
  · split
    · exact (s.fetchGoesOn_requested _ _).mono (by omega)
    · split
      · exact hdone
      · exact ((s.fetchDone_requested f).trans (State.dispose_requested _ _ _ _)).mono (by omega)

theorem State.bodyTaken_requested (s : State) (f : Fetch) (length tag next : Nat) (got : List Byte) :
    Requested 3 s (s.bodyTaken f length tag next got) := by
  unfold State.bodyTaken
  split
  · exact (s.fetchGoesOn_requested _ _).mono (by omega)
  · split
    · exact (s.fetchDone_requested f).mono (by omega)
    · exact ((s.fetchDone_requested f).trans (State.dispose_requested _ _ _ _)).mono (by omega)

/-- R148: a fetch read clears its grant counter, and then asks for what its bytes bring. -/
theorem State.fetchGrant_requested (h : s.ffu.buffer ≠ none) :
    ∃ a n, Requested 3 (s.fetchRead a n) s.fetchGrant := by
  obtain ⟨f, hf⟩ := Option.ne_none_iff_exists'.mp h
  cases hphase : f.phase with
  | header =>
    rw [State.fetchGrant_of_header hf hphase]
    exact ⟨_, _, State.headerTaken_requested _ _ _⟩
  | body length tag next got =>
    rw [State.fetchGrant_of_body hf hphase]
    exact ⟨_, _, State.bodyTaken_requested _ _ _ _ _ _⟩

end

end Sys2Proof.Machine

/-! A waiting master access is granted (R149, R152): each grant that comes before it lowers a weight of what keeps it waiting. -/
namespace Sys2Proof.Machine

/-! ### What a master access can wait for -/

/-- The drains and fetch reads a waiting group can still cause: its own words, or two requests at the discard of an egress frame
group. -/
def Group.waitWork (g : Group) : Nat := if g.isEgress then 26 else g.size

/-- The grants that can still come before a waiting master access. -/
def State.waitWork (s : State) : Nat :=
  s.pwq.entries.length + s.orderWeight Group.waitWork + 9 * s.engine.jobs.length + if 8 ≤ s.mpa.fetchCount then 28 else 0

theorem Group.waitWork_moveBack (ne : Nat) (g : Group) : (g.moveBack ne).waitWork = g.waitWork := by
  cases g <;> rfl

theorem Group.waitWork_of_isEgress {g : Group} (h : g.isEgress = true) : g.waitWork = 26 := if_pos h

theorem Group.waitWork_of_other {g : Group} (h : g.isEgress = false) : g.waitWork = g.size := by simp [Group.waitWork, h]

theorem Group.waitWork_bounds {g : Group} (h : g.size ≤ 26) : g.size ≤ g.waitWork ∧ g.waitWork ≤ 26 := by
  unfold Group.waitWork
  split <;> omega

section
variable {s t : State} {n m : Nat}

/-! ### The due steps -/

theorem Requested.waitWork_le (h : Requested n s t) : t.waitWork ≤ s.waitWork + n * 9 := by
  have horder := h.orderWeight_le (w := Group.waitWork) (c := 9) fun g hg hsize => (Group.waitWork_of_other hg).trans_le hsize
  simp only [State.waitWork, h.jobs, h.entries, h.mpa]
  omega

theorem Requested.groupsSmall (h : Requested n s t) (hs : s.groupsSmall) : t.groupsSmall := by
  obtain ⟨gs, hgs, -, hsmall⟩ := h.groups
  intro g hg
  obtain hold | hnew := List.mem_append.mp (hgs ▸ hg)
  · exact hs g hold
  · exact (hsmall g hnew).2.trans (by omega)

theorem DueShape.groupsSmall (h : DueShape s t) (hs : s.groupsSmall) : t.groupsSmall := by
  cases h with
  | admission g rest hw hwaiting =>
    exact fun g' hg' => hs g' (hw ▸ List.mem_cons_of_mem g (hwaiting ▸ hg'))
  | discard g rest u hw _ hwaiting _ _ _ _ hrequest =>
    refine hrequest.groupsSmall fun g' hg' => ?_
    obtain ⟨o, ho, rfl⟩ := List.mem_map.mp (hwaiting ▸ hg')
    rw [Group.size_moveBack]
    exact hs o (hw ▸ List.mem_cons_of_mem g ho)
  | quiet _ _ hpwq => exact fun g hg => hs g (hpwq ▸ hg)
  | start u hrequest hpwq => exact fun g hg => hrequest.groupsSmall hs g (hpwq ▸ hg)

/-- No due step makes a master access wait longer. -/
theorem DueShape.waitWork_le (h : DueShape s t) (hs : s.groupsSmall) : t.waitWork ≤ s.waitWork := by
  cases h with
  | admission g rest hw hwaiting hentries hjobs hmpa _ =>
    have horder := State.orderWeight_eq (w := Group.waitWork) hw
    have ht : t.orderWeight Group.waitWork = (rest.map Group.waitWork).sum := by rw [State.orderWeight, hwaiting]
    have hg := Group.waitWork_bounds (hs g (hw ▸ List.mem_cons_self))
    simp only [State.waitWork, hjobs, hmpa, hentries]
    omega
  | discard g rest u hw hg hwaiting hentries hjobs hmpa _ hrequest =>
    have horder := State.orderWeight_eq (w := Group.waitWork) hw
    have hu : u.orderWeight Group.waitWork = (rest.map Group.waitWork).sum := by
      rw [State.orderWeight, hwaiting, sum_map_moveBack Group.waitWork_moveBack]
    have ht := hrequest.waitWork_le
    have hegress := Group.waitWork_of_isEgress hg
    simp only [State.waitWork, hjobs, hmpa, hentries] at ht ⊢
    omega
  | quiet _ _ hpwq hjobs hmpa =>
    exact le_of_eq (by simp only [State.waitWork, State.orderWeight_congr hpwq, hpwq, hjobs, hmpa])
  | start u hrequest hpwq hmpa _ hjobs =>
    have hu := hrequest.waitWork_le
    have hrunning := hrequest.jobs
    simp only [State.waitWork, State.orderWeight_congr hpwq, hpwq, hmpa, hrunning] at hu ⊢
    omega

theorem State.settle_groupsSmall (hs : s.groupsSmall) : s.settle.groupsSmall :=
  State.settle_keeps (fun _ _ hd hu => (State.takeDue_shape hd).groupsSmall hu) hs

theorem State.settle_waitWork_le (hs : s.groupsSmall) : s.settle.waitWork ≤ s.waitWork :=
  (State.settle_keeps (P := fun u => u.groupsSmall ∧ u.waitWork ≤ s.waitWork)
    (fun _ _ hd hu => ⟨(State.takeDue_shape hd).groupsSmall hu.1, ((State.takeDue_shape hd).waitWork_le hu.1).trans hu.2⟩)
    ⟨hs, le_rfl⟩).2

theorem State.waitWork_le_awaitBound (hs : s.groupsSmall) : s.waitWork ≤ s.awaitBound := by
  have horder : s.orderWeight Group.waitWork ≤ s.pwq.waiting.length * 26 := by
    simpa [State.orderWeight] using List.sum_le_card_nsmul (s.pwq.waiting.map Group.waitWork) 26
      (by simpa using fun g hg => (Group.waitWork_bounds (hs g hg)).2)
  unfold State.waitWork State.awaitBound
  split <;> omega

/-! ### The grants that come first -/

theorem State.drainGrant_waitWork_lt (h : s.pwq.entries ≠ []) : s.drainGrant.waitWork < s.waitWork := by
  obtain ⟨w, rest, hentries⟩ := List.exists_cons_of_ne_nil h
  rw [State.drainGrant_of_entries hentries]
  simp only [State.waitWork, State.orderWeight, hentries, List.length_cons]
  omega

theorem State.drainGrant_groupsSmall (h : s.pwq.entries ≠ []) (hs : s.groupsSmall) : s.drainGrant.groupsSmall := by
  obtain ⟨w, rest, hentries⟩ := List.exists_cons_of_ne_nil h
  rw [State.drainGrant_of_entries hentries]
  exact hs

theorem State.fetchGrant_waitWork_lt (h : s.fetchStarved) : s.fetchGrant.waitWork < s.waitWork := by
  obtain ⟨hbuffer, hcount⟩ := h
  obtain ⟨a, n, hrequest⟩ := State.fetchGrant_requested hbuffer
  have hgrant := hrequest.waitWork_le
  have hread : (s.fetchRead a n).waitWork + 28 = s.waitWork := by
    simp only [State.waitWork, State.orderWeight, State.fetchRead, if_pos hcount]
    rfl
  omega

theorem State.fetchGrant_groupsSmall (h : s.ffu.buffer ≠ none) (hs : s.groupsSmall) : s.fetchGrant.groupsSmall := by
  obtain ⟨a, n, hrequest⟩ := State.fetchGrant_requested h
  exact hrequest.groupsSmall hs

/-- Groups that hold a master access back stand behind a queue with entries: their head does not fit. -/
theorem State.entries_of_not_admitted (hsettled : s.settled) (hs : s.groupsSmall) (hnot : ¬ s.masterAdmitted true) :
    s.pwq.entries ≠ [] := by
  intro hempty
  have hwaits : 15 ≤ s.pwq.waiting.countP Group.isStatusOrIndex := not_lt.mp fun hfew => hnot ⟨rfl, hfew⟩
  cases hw : s.pwq.waiting with
  | nil => simp [hw] at hwaits
  | cons g rest =>
    have hhead := ((State.settled_iff.mp hsettled).1 g rest hw).1
    have hsize := hs g (hw ▸ List.mem_cons_self)
    rw [hempty, List.length_nil] at hhead
    omega

/-- R149 at the end of an event, a master access waiting: the master, the PWQ with an entry, or a starved FFU. -/
theorem State.portChoice_master (hsettled : s.settled) (hs : s.groupsSmall) :
    s.portChoice true = some .master ∨ (s.portChoice true = some .pwq ∧ s.pwq.entries ≠ []) ∨
      (s.portChoice true = some .ffu ∧ s.fetchStarved) := by
  by_cases hlong : s.queueLong
  · refine .inr (.inl ⟨State.portChoice_of_long hlong, fun hempty => ?_⟩)
    have hentries := hlong.1
    rw [hempty, List.length_nil] at hentries
    omega
  · by_cases hstarved : s.fetchStarved
    · exact .inr (.inr ⟨State.portChoice_of_starved hlong hstarved, hstarved⟩)
    · by_cases hadmitted : s.masterAdmitted true
      · exact .inl (State.portChoice_of_admitted hlong hstarved hadmitted)
      · have hentries := State.entries_of_not_admitted hsettled hs hadmitted
        exact .inr (.inl ⟨(State.portChoice_of_not_admitted hlong hstarved hadmitted).trans
          (State.leisureChoice_of_entries hentries), hentries⟩)

/-- R149: a claimant of the part that comes before a waiting master access is granted without one too. -/
theorem State.portChoice_own {c : Claimant} (h : s.portChoice true = some c) (hown : c ≠ .master) :
    s.portChoice false = some c := by
  by_cases hlong : s.queueLong
  · rwa [State.portChoice_of_long hlong] at h ⊢
  · by_cases hstarved : s.fetchStarved
    · rwa [State.portChoice_of_starved hlong hstarved] at h ⊢
    · by_cases hadmitted : s.masterAdmitted true
      · rw [State.portChoice_of_admitted hlong hstarved hadmitted] at h
        exact absurd (Option.some.inj h).symm hown
      · rw [State.portChoice_of_not_admitted hlong hstarved hadmitted] at h
        rw [State.portChoice_of_not_admitted hlong hstarved (nofun : ¬ s.masterAdmitted false), h]

/-- A grant of the part that comes before a waiting master access leaves it less to wait for. -/
theorem State.grantOwn_progress {c : Claimant} (hsettled : s.settled) (hs : s.groupsSmall) (h : s.portChoice true = some c)
    (hown : c ≠ .master) : (s.grantOwn c).groupsSmall ∧ (s.grantOwn c).waitWork < s.waitWork := by
  obtain hmaster | ⟨hpwq, hentries⟩ | ⟨hffu, hstarved⟩ := State.portChoice_master hsettled hs
  · exact absurd (Option.some.inj (h.symm.trans hmaster)) hown
  · obtain rfl := Option.some.inj (h.symm.trans hpwq)
    exact ⟨State.drainGrant_groupsSmall hentries hs, State.drainGrant_waitWork_lt hentries⟩
  · obtain rfl := Option.some.inj (h.symm.trans hffu)
    exact ⟨State.fetchGrant_groupsSmall hstarved.1 hs, State.fetchGrant_waitWork_lt hstarved⟩

/-! ### Waiting for the grant -/

theorem State.awaitUpTo_of_granted (h : s.settle.portChoice true = some .master) (n : Nat) :
    State.awaitUpTo .master n s = s.settle := by
  cases n <;> simp [State.awaitUpTo, h]

theorem State.awaitUpTo_of_own {c : Claimant} (h : s.settle.portChoice true = some c) (hown : c ≠ .master) (n : Nat) :
    State.awaitUpTo .master (n + 1) s = State.awaitUpTo .master n (s.settle.grantOwn c) := by
  simp [State.awaitUpTo, h, hown]

/-- After settling the port goes to the master, or to a claimant of the part with which the wait grows shorter. -/
theorem State.settle_choice (hs : s.groupsSmall) : s.settle.portChoice true = some .master ∨
    ∃ c, c ≠ .master ∧ s.settle.portChoice true = some c ∧ (s.settle.grantOwn c).groupsSmall ∧
      (s.settle.grantOwn c).waitWork < s.waitWork := by
  have hsmall := State.settle_groupsSmall hs
  have hown {c : Claimant} (hc : s.settle.portChoice true = some c) (hne : c ≠ .master) :
      (s.settle.grantOwn c).groupsSmall ∧ (s.settle.grantOwn c).waitWork < s.waitWork := by
    obtain ⟨hgroups, hless⟩ := State.grantOwn_progress s.settled_settle hsmall hc hne
    exact ⟨hgroups, hless.trans_le (State.settle_waitWork_le hs)⟩
  obtain hmaster | ⟨hpwq, -⟩ | ⟨hffu, -⟩ := State.portChoice_master s.settled_settle hsmall
  · exact .inl hmaster
  · exact .inr ⟨.pwq, nofun, hpwq, hown hpwq nofun⟩
  · exact .inr ⟨.ffu, nofun, hffu, hown hffu nofun⟩

/-- With enough fuel for the grants that come first, the wait ends where the port is granted to the master. -/
theorem State.masterTurn_awaitUpTo {n : Nat} : ∀ {s : State}, s.groupsSmall → s.waitWork ≤ n →
    (State.awaitUpTo .master n s).masterTurn := by
  induction n with
  | zero =>
    intro s hs hn
    obtain hmaster | ⟨c, -, -, -, hless⟩ := State.settle_choice hs
    · exact ⟨s.settled_settle, hmaster⟩
    · omega
  | succ n ih =>
    intro s hs hn
    obtain hmaster | ⟨c, hne, hc, hsmall, hless⟩ := State.settle_choice hs
    · rw [State.awaitUpTo_of_granted hmaster]
      exact ⟨s.settled_settle, hmaster⟩
    · rw [State.awaitUpTo_of_own hc hne]
      exact ih hsmall (by omega)

/-- Fuel beyond the grants that come first does not matter. -/
theorem State.awaitUpTo_fuel {n : Nat} : ∀ {m : Nat} {s : State}, s.groupsSmall → s.waitWork ≤ n → s.waitWork ≤ m →
    State.awaitUpTo .master n s = State.awaitUpTo .master m s := by
  induction n with
  | zero =>
    intro m s hs hn hm
    obtain hmaster | ⟨c, -, -, -, hless⟩ := State.settle_choice hs
    · exact (State.awaitUpTo_of_granted hmaster m).symm
    · omega
  | succ n ih =>
    intro m s hs hn hm
    obtain hmaster | ⟨c, hne, hc, hsmall, hless⟩ := State.settle_choice hs
    · rw [State.awaitUpTo_of_granted hmaster, State.awaitUpTo_of_granted hmaster]
    · obtain ⟨m, rfl⟩ := Nat.exists_eq_succ_of_ne_zero (show m ≠ 0 by omega)
      rw [State.awaitUpTo_of_own hc hne, State.awaitUpTo_of_own hc hne]
      exact ih hsmall (by omega) (by omega)

theorem State.masterTurn_await (hs : s.groupsSmall) : (s.await .master).masterTurn :=
  State.masterTurn_awaitUpTo hs (State.waitWork_le_awaitBound hs)

theorem State.await_await (hs : s.groupsSmall) : (s.await .master).await .master = s.await .master :=
  State.await_of_masterTurn (State.masterTurn_await hs)

/-- The wait after a grant that came first is the rest of the wait. -/
theorem State.await_grantOwn {c : Claimant} (hs : s.groupsSmall) (hc : s.settle.portChoice true = some c) (hne : c ≠ .master) :
    s.await .master = (s.settle.grantOwn c).await .master := by
  obtain ⟨hsmall, hless⟩ := State.grantOwn_progress s.settled_settle (State.settle_groupsSmall hs) hc hne
  have hsettle := State.settle_waitWork_le hs
  have hbound := State.waitWork_le_awaitBound hs
  have hfuel : s.awaitBound = s.awaitBound - 1 + 1 := by unfold State.awaitBound; omega
  calc s.await .master
    _ = State.awaitUpTo .master (s.awaitBound - 1 + 1) s := by rw [State.await, ← hfuel]
    _ = State.awaitUpTo .master (s.awaitBound - 1) (s.settle.grantOwn c) := State.awaitUpTo_of_own hc hne _
    _ = (s.settle.grantOwn c).await .master :=
        State.awaitUpTo_fuel hsmall (by omega) (State.waitWork_le_awaitBound hsmall)

/-! ### The rows of a waiting access, of drains and of fetch reads -/

theorem masterWriteAccess_await (hs : s.groupsSmall) (b : WriteBurst) :
    masterWriteAccess b s = masterWriteAccess b (s.await .master) := by
  rw [masterWriteAccess, masterWriteAccess, State.await_await hs]

theorem masterReadAccess_await (hs : s.groupsSmall) (b : ReadBurst) :
    masterReadAccess b s = masterReadAccess b (s.await .master) := by
  rw [masterReadAccess, masterReadAccess, State.await_await hs]

theorem exec_drain_of_turn (h : s.queueTurn) (hentries : s.pwq.entries ≠ []) : exec .drain s = .next s.drainGrant := by
  have hsettle : s.settle = s := State.settle_of_settled h.1
  simp only [exec, execDrain, hsettle, if_neg hentries, State.await_of_queueTurn h]

end

/-! ### The grants that come first, by their rows -/

section
variable {s : State} {f : Fetch}

theorem State.grantOwn_pwq (s : State) : s.grantOwn .pwq = s.drainGrant := rfl

theorem State.grantOwn_ffu (s : State) : s.grantOwn .ffu = s.fetchGrant := rfl

/-- A drain that comes before a waiting master access is the row's own grant, and the access waits on after it. -/
theorem State.await_drain (hs : s.groupsSmall) (h : s.settle.portChoice true = some .pwq) :
    ∃ t, exec .drain s.settle = .next t ∧ s.await .master = t.await .master := by
  have hturn : s.settle.queueTurn := ⟨s.settled_settle, State.portChoice_own h nofun⟩
  have hrest := State.await_grantOwn hs h nofun
  rw [State.grantOwn_pwq] at hrest
  obtain hmaster | ⟨-, hentries⟩ | ⟨hffu, -⟩ := State.portChoice_master s.settled_settle (State.settle_groupsSmall hs)
  · exact absurd (h.symm.trans hmaster) nofun
  · exact ⟨_, exec_drain_of_turn hturn hentries, hrest⟩
  · exact absurd (h.symm.trans hffu) nofun

/-- A fetch read that comes before a waiting master access is its row's own grant, and the access waits on after it. -/
theorem State.await_fetch (hs : s.groupsSmall) (h : s.settle.portChoice true = some .ffu) (hf : s.settle.ffu.buffer = some f) :
    (f.phase = .header → ∃ t, exec .fetchHeaderRead s.settle = .next t ∧ s.await .master = t.await .master) ∧
      (f.phase ≠ .header → ∃ t, exec .fetchBodyRead s.settle = .next t ∧ s.await .master = t.await .master) := by
  have hturn : s.settle.fetchTurn := ⟨s.settled_settle, State.portChoice_own h nofun⟩
  have hrest := State.await_grantOwn hs h nofun
  rw [State.grantOwn_ffu] at hrest
  refine ⟨fun hphase => ⟨_, exec_fetchHeaderRead_of_turn hturn hf hphase, hrest⟩, fun hphase => ⟨_, ?_, hrest⟩⟩
  cases hbody : f.phase with
  | header => exact absurd hbody hphase
  | body length tag next got => exact exec_fetchBodyRead_of_turn hturn hf hbody

end

/-- Settles O51: each grant that comes first lowers the weight of what is waited for, which the model's bound covers. -/
theorem masterIsGranted : Obligations.MasterIsGranted := by
  intro s hs
  refine ⟨State.masterTurn_await hs, fun b c hc => ?writes, fun b c hc => ?reads, ?_⟩
  case writes => rw [exec_writeRow hc, exec_writeRow hc, masterWriteAccess_await hs]
  case reads =>
    simp only [List.mem_cons, List.not_mem_nil, or_false] at hc
    obtain rfl | rfl := hc
    · exact masterReadAccess_await hs b
    · exact masterReadAccess_await hs b
  exact ⟨fun h => State.awaitUpTo_of_granted h _, State.await_drain hs, fun f => State.await_fetch hs⟩

end Sys2Proof.Machine
